-- ==== Sys2Proof/Word.lean ====
section
/-! DEFINITION. The word types of the machine (spec/00_scope.md R9, R12): bytes and 16-bit CPU addresses. -/

namespace Sys2Proof

/-- A u8 of R12: a register, a memory byte, an opcode, an operand byte. -/
abbrev Byte := BitVec 8

/-- A u16 of R12: the program counter or an address of the CPU space. -/
abbrev Addr := BitVec 16

end Sys2Proof
end

