-- ==== Sys2Proof/Config.lean ====
section
/-! DEFINITION. The implementation parameters of spec/00_scope.md R10. They are plain data held in `State.cfg` (DESIGN CHOICE, safe, log 3): a statement over every state holds for every value of them; `Params.default` is the spec's own default for each. -/

namespace Sys2Proof

/-- `UNOFFICIAL_OPCODES` (R10, R370, D1): whether the 80 unofficial opcodes fault or execute. -/
inductive Unofficial where
  /-- They raise `IllegalOpcode` (the default). -/
  | fault
  /-- They execute as 47_unofficial.md says. -/
  | nestest
  deriving DecidableEq, Repr

/-- The named parameters of R10, but for `MEM_INIT` (an argument of power-on), `IRQ_LINE` (the field `State.irq`), `END_PC` and `END_STEPS` (`RunEnd`, an argument of `runUntil`) and `TRACE_FORMAT` (an argument of `traceLine`). -/
structure Params where
  /-- `UNOFFICIAL_OPCODES`. -/
  unofficial : Unofficial
  /-- `INT_PUSH_B`: bit 4 of the status byte that NMI and IRQ entry push. -/
  intPushB : Bool
  /-- `RESET_CYCLES`: the cycle counter after power-on. -/
  resetCycles : BitVec 64
  /-- `STALL_COUNTS_CYCLES`: whether a DMA stall cycle counts in `cycles`. -/
  stallCountsCycles : Bool
  /-- `NMI_DELAY_TICKS`: ticks from the NMI edge to the CPU's NMI request (R505 asks for at least 1). -/
  nmiDelayTicks : Nat
  /-- `OPEN_BUS`: what an unmapped-but-defined read returns. -/
  openBus : Byte
  /-- `ODD_SKIP_NEEDS_RENDERING`: whether the odd-frame skip needs rendering enabled. -/
  oddSkipNeedsRendering : Bool
  /-- `MAPPER_SET`: the mapper ids with an implementation. -/
  mapperSet : List Byte
  deriving DecidableEq, Repr

/-- The defaults of R10's table. -/
def Params.default : Params where
  unofficial := .fault
  intPushB := false
  resetCycles := 7
  stallCountsCycles := true
  nmiDelayTicks := 15
  openBus := 0x00
  oddSkipNeedsRendering := false
  mapperSet := [0, 2, 3]

end Sys2Proof
end

