-- ==== Sys2Proof/Syntax.lean ====
section
/-! DEFINITION. The instructions: ONE constructor for each row of spec/opcode_table.json, that is, for each of the 256 opcode bytes of spec/30_encoding.md R156 (R160: the set is closed). A constructor carries the operand field of its addressing mode (R151, R153): nothing, one byte, or one 16-bit address. Its name is the mnemonic and the mode; where the table spells one mnemonic and mode with several opcodes, the opcode byte in hexadecimal. -/

namespace Sys2Proof

/-- The addressing modes of R151. -/
inductive Mode where
  | impl | acc | imm | zp | zpx | zpy | abs | abx | aby | ind | izx | izy | rel
  deriving DecidableEq, Repr

/-- `Length(mode)` of R152: the bytes of an instruction, its opcode included. -/
def Mode.length : Mode → Nat
  | .impl | .acc => 1
  | .imm | .zp | .zpx | .zpy | .izx | .izy | .rel => 2
  | .abs | .abx | .aby | .ind => 3

/-- The instruction set of R156 and R157, one constructor per opcode byte. -/
inductive Instr where
  -- 41 loads, stores, transfers
  /-- A1: LDA izx, R231. -/
  | ldaIzx (b : Byte)
  /-- A5: LDA zp, R231. -/
  | ldaZp (b : Byte)
  /-- A9: LDA imm, R231. -/
  | ldaImm (b : Byte)
  /-- AD: LDA abs, R231. -/
  | ldaAbs (w : Addr)
  /-- B1: LDA izy, R231. -/
  | ldaIzy (b : Byte)
  /-- B5: LDA zpx, R231. -/
  | ldaZpx (b : Byte)
  /-- B9: LDA aby, R231. -/
  | ldaAby (w : Addr)
  /-- BD: LDA abx, R231. -/
  | ldaAbx (w : Addr)
  /-- A2: LDX imm, R232. -/
  | ldxImm (b : Byte)
  /-- A6: LDX zp, R232. -/
  | ldxZp (b : Byte)
  /-- AE: LDX abs, R232. -/
  | ldxAbs (w : Addr)
  /-- B6: LDX zpy, R232. -/
  | ldxZpy (b : Byte)
  /-- BE: LDX aby, R232. -/
  | ldxAby (w : Addr)
  /-- A0: LDY imm, R233. -/
  | ldyImm (b : Byte)
  /-- A4: LDY zp, R233. -/
  | ldyZp (b : Byte)
  /-- AC: LDY abs, R233. -/
  | ldyAbs (w : Addr)
  /-- B4: LDY zpx, R233. -/
  | ldyZpx (b : Byte)
  /-- BC: LDY abx, R233. -/
  | ldyAbx (w : Addr)
  /-- 81: STA izx, R234. -/
  | staIzx (b : Byte)
  /-- 85: STA zp, R234. -/
  | staZp (b : Byte)
  /-- 8D: STA abs, R234. -/
  | staAbs (w : Addr)
  /-- 91: STA izy, R234. -/
  | staIzy (b : Byte)
  /-- 95: STA zpx, R234. -/
  | staZpx (b : Byte)
  /-- 99: STA aby, R234. -/
  | staAby (w : Addr)
  /-- 9D: STA abx, R234. -/
  | staAbx (w : Addr)
  /-- 86: STX zp, R235. -/
  | stxZp (b : Byte)
  /-- 8E: STX abs, R235. -/
  | stxAbs (w : Addr)
  /-- 96: STX zpy, R235. -/
  | stxZpy (b : Byte)
  /-- 84: STY zp, R236. -/
  | styZp (b : Byte)
  /-- 8C: STY abs, R236. -/
  | styAbs (w : Addr)
  /-- 94: STY zpx, R236. -/
  | styZpx (b : Byte)
  /-- AA: TAX impl, R237. -/
  | tax
  /-- A8: TAY impl, R238. -/
  | tay
  /-- 8A: TXA impl, R239. -/
  | txa
  /-- 98: TYA impl, R240. -/
  | tya
  /-- BA: TSX impl, R241. -/
  | tsx
  /-- 9A: TXS impl, R242. -/
  | txs
  -- 42 stack
  /-- 48: PHA impl, R260. -/
  | pha
  /-- 08: PHP impl, R261. -/
  | php
  /-- 68: PLA impl, R262. -/
  | pla
  /-- 28: PLP impl, R263. -/
  | plp
  -- 43 arithmetic, logic, bit test, compare
  /-- 61: ADC izx, R271. -/
  | adcIzx (b : Byte)
  /-- 65: ADC zp, R271. -/
  | adcZp (b : Byte)
  /-- 69: ADC imm, R271. -/
  | adcImm (b : Byte)
  /-- 6D: ADC abs, R271. -/
  | adcAbs (w : Addr)
  /-- 71: ADC izy, R271. -/
  | adcIzy (b : Byte)
  /-- 75: ADC zpx, R271. -/
  | adcZpx (b : Byte)
  /-- 79: ADC aby, R271. -/
  | adcAby (w : Addr)
  /-- 7D: ADC abx, R271. -/
  | adcAbx (w : Addr)
  /-- E1: SBC izx, R272. -/
  | sbcIzx (b : Byte)
  /-- E5: SBC zp, R272. -/
  | sbcZp (b : Byte)
  /-- E9: SBC imm, R272. -/
  | sbcImm (b : Byte)
  /-- ED: SBC abs, R272. -/
  | sbcAbs (w : Addr)
  /-- F1: SBC izy, R272. -/
  | sbcIzy (b : Byte)
  /-- F5: SBC zpx, R272. -/
  | sbcZpx (b : Byte)
  /-- F9: SBC aby, R272. -/
  | sbcAby (w : Addr)
  /-- FD: SBC abx, R272. -/
  | sbcAbx (w : Addr)
  /-- 21: AND izx, R274. -/
  | andIzx (b : Byte)
  /-- 25: AND zp, R274. -/
  | andZp (b : Byte)
  /-- 29: AND imm, R274. -/
  | andImm (b : Byte)
  /-- 2D: AND abs, R274. -/
  | andAbs (w : Addr)
  /-- 31: AND izy, R274. -/
  | andIzy (b : Byte)
  /-- 35: AND zpx, R274. -/
  | andZpx (b : Byte)
  /-- 39: AND aby, R274. -/
  | andAby (w : Addr)
  /-- 3D: AND abx, R274. -/
  | andAbx (w : Addr)
  /-- 01: ORA izx, R275. -/
  | oraIzx (b : Byte)
  /-- 05: ORA zp, R275. -/
  | oraZp (b : Byte)
  /-- 09: ORA imm, R275. -/
  | oraImm (b : Byte)
  /-- 0D: ORA abs, R275. -/
  | oraAbs (w : Addr)
  /-- 11: ORA izy, R275. -/
  | oraIzy (b : Byte)
  /-- 15: ORA zpx, R275. -/
  | oraZpx (b : Byte)
  /-- 19: ORA aby, R275. -/
  | oraAby (w : Addr)
  /-- 1D: ORA abx, R275. -/
  | oraAbx (w : Addr)
  /-- 41: EOR izx, R276. -/
  | eorIzx (b : Byte)
  /-- 45: EOR zp, R276. -/
  | eorZp (b : Byte)
  /-- 49: EOR imm, R276. -/
  | eorImm (b : Byte)
  /-- 4D: EOR abs, R276. -/
  | eorAbs (w : Addr)
  /-- 51: EOR izy, R276. -/
  | eorIzy (b : Byte)
  /-- 55: EOR zpx, R276. -/
  | eorZpx (b : Byte)
  /-- 59: EOR aby, R276. -/
  | eorAby (w : Addr)
  /-- 5D: EOR abx, R276. -/
  | eorAbx (w : Addr)
  /-- 24: BIT zp, R277. -/
  | bitZp (b : Byte)
  /-- 2C: BIT abs, R277. -/
  | bitAbs (w : Addr)
  /-- C1: CMP izx, R279. -/
  | cmpIzx (b : Byte)
  /-- C5: CMP zp, R279. -/
  | cmpZp (b : Byte)
  /-- C9: CMP imm, R279. -/
  | cmpImm (b : Byte)
  /-- CD: CMP abs, R279. -/
  | cmpAbs (w : Addr)
  /-- D1: CMP izy, R279. -/
  | cmpIzy (b : Byte)
  /-- D5: CMP zpx, R279. -/
  | cmpZpx (b : Byte)
  /-- D9: CMP aby, R279. -/
  | cmpAby (w : Addr)
  /-- DD: CMP abx, R279. -/
  | cmpAbx (w : Addr)
  /-- E0: CPX imm, R280. -/
  | cpxImm (b : Byte)
  /-- E4: CPX zp, R280. -/
  | cpxZp (b : Byte)
  /-- EC: CPX abs, R280. -/
  | cpxAbs (w : Addr)
  /-- C0: CPY imm, R281. -/
  | cpyImm (b : Byte)
  /-- C4: CPY zp, R281. -/
  | cpyZp (b : Byte)
  /-- CC: CPY abs, R281. -/
  | cpyAbs (w : Addr)
  -- 44 increments, decrements, shifts
  /-- E6: INC zp, R300. -/
  | incZp (b : Byte)
  /-- EE: INC abs, R300. -/
  | incAbs (w : Addr)
  /-- F6: INC zpx, R300. -/
  | incZpx (b : Byte)
  /-- FE: INC abx, R300. -/
  | incAbx (w : Addr)
  /-- C6: DEC zp, R301. -/
  | decZp (b : Byte)
  /-- CE: DEC abs, R301. -/
  | decAbs (w : Addr)
  /-- D6: DEC zpx, R301. -/
  | decZpx (b : Byte)
  /-- DE: DEC abx, R301. -/
  | decAbx (w : Addr)
  /-- E8: INX impl, R302. -/
  | inx
  /-- C8: INY impl, R303. -/
  | iny
  /-- CA: DEX impl, R304. -/
  | dex
  /-- 88: DEY impl, R305. -/
  | dey
  /-- 06: ASL zp, R306. -/
  | aslZp (b : Byte)
  /-- 0A: ASL acc, R306. -/
  | aslAcc
  /-- 0E: ASL abs, R306. -/
  | aslAbs (w : Addr)
  /-- 16: ASL zpx, R306. -/
  | aslZpx (b : Byte)
  /-- 1E: ASL abx, R306. -/
  | aslAbx (w : Addr)
  /-- 46: LSR zp, R307. -/
  | lsrZp (b : Byte)
  /-- 4A: LSR acc, R307. -/
  | lsrAcc
  /-- 4E: LSR abs, R307. -/
  | lsrAbs (w : Addr)
  /-- 56: LSR zpx, R307. -/
  | lsrZpx (b : Byte)
  /-- 5E: LSR abx, R307. -/
  | lsrAbx (w : Addr)
  /-- 26: ROL zp, R308. -/
  | rolZp (b : Byte)
  /-- 2A: ROL acc, R308. -/
  | rolAcc
  /-- 2E: ROL abs, R308. -/
  | rolAbs (w : Addr)
  /-- 36: ROL zpx, R308. -/
  | rolZpx (b : Byte)
  /-- 3E: ROL abx, R308. -/
  | rolAbx (w : Addr)
  /-- 66: ROR zp, R309. -/
  | rorZp (b : Byte)
  /-- 6A: ROR acc, R309. -/
  | rorAcc
  /-- 6E: ROR abs, R309. -/
  | rorAbs (w : Addr)
  /-- 76: ROR zpx, R309. -/
  | rorZpx (b : Byte)
  /-- 7E: ROR abx, R309. -/
  | rorAbx (w : Addr)
  -- 45 control transfer
  /-- 10: BPL rel, R321. -/
  | bpl (b : Byte)
  /-- 30: BMI rel, R322. -/
  | bmi (b : Byte)
  /-- 50: BVC rel, R323. -/
  | bvc (b : Byte)
  /-- 70: BVS rel, R324. -/
  | bvs (b : Byte)
  /-- 90: BCC rel, R325. -/
  | bcc (b : Byte)
  /-- B0: BCS rel, R326. -/
  | bcs (b : Byte)
  /-- D0: BNE rel, R327. -/
  | bne (b : Byte)
  /-- F0: BEQ rel, R328. -/
  | beq (b : Byte)
  /-- 4C: JMP abs, R329. -/
  | jmpAbs (w : Addr)
  /-- 6C: JMP ind, R329. -/
  | jmpInd (w : Addr)
  /-- 20: JSR abs, R330. -/
  | jsrAbs (w : Addr)
  /-- 60: RTS impl, R331. -/
  | rts
  /-- 40: RTI impl, R332. -/
  | rti
  /-- 00: BRK impl, R333. -/
  | brk
  -- 46 flags, NOP
  /-- 18: CLC impl, R350. -/
  | clc
  /-- 38: SEC impl, R351. -/
  | sec
  /-- 58: CLI impl, R352. -/
  | cli
  /-- 78: SEI impl, R353. -/
  | sei
  /-- D8: CLD impl, R354. -/
  | cld
  /-- F8: SED impl, R355. -/
  | sed
  /-- B8: CLV impl, R356. -/
  | clv
  /-- EA: NOP impl, R357. -/
  | nop
  -- 47 unofficial
  /-- 04: NOP zp, R371. -/
  | nop04 (b : Byte)
  /-- 0C: NOP abs, R371. -/
  | nop0C (w : Addr)
  /-- 14: NOP zpx, R371. -/
  | nop14 (b : Byte)
  /-- 1A: NOP impl, R371. -/
  | nop1A
  /-- 1C: NOP abx, R371. -/
  | nop1C (w : Addr)
  /-- 34: NOP zpx, R371. -/
  | nop34 (b : Byte)
  /-- 3A: NOP impl, R371. -/
  | nop3A
  /-- 3C: NOP abx, R371. -/
  | nop3C (w : Addr)
  /-- 44: NOP zp, R371. -/
  | nop44 (b : Byte)
  /-- 54: NOP zpx, R371. -/
  | nop54 (b : Byte)
  /-- 5A: NOP impl, R371. -/
  | nop5A
  /-- 5C: NOP abx, R371. -/
  | nop5C (w : Addr)
  /-- 64: NOP zp, R371. -/
  | nop64 (b : Byte)
  /-- 74: NOP zpx, R371. -/
  | nop74 (b : Byte)
  /-- 7A: NOP impl, R371. -/
  | nop7A
  /-- 7C: NOP abx, R371. -/
  | nop7C (w : Addr)
  /-- 80: NOP imm, R371. -/
  | nop80 (b : Byte)
  /-- 82: NOP imm, R371. -/
  | nop82 (b : Byte)
  /-- 89: NOP imm, R371. -/
  | nop89 (b : Byte)
  /-- C2: NOP imm, R371. -/
  | nopC2 (b : Byte)
  /-- D4: NOP zpx, R371. -/
  | nopD4 (b : Byte)
  /-- DA: NOP impl, R371. -/
  | nopDA
  /-- DC: NOP abx, R371. -/
  | nopDC (w : Addr)
  /-- E2: NOP imm, R371. -/
  | nopE2 (b : Byte)
  /-- F4: NOP zpx, R371. -/
  | nopF4 (b : Byte)
  /-- FA: NOP impl, R371. -/
  | nopFA
  /-- FC: NOP abx, R371. -/
  | nopFC (w : Addr)
  /-- A3: LAX izx, R372. -/
  | laxIzx (b : Byte)
  /-- A7: LAX zp, R372. -/
  | laxZp (b : Byte)
  /-- AF: LAX abs, R372. -/
  | laxAbs (w : Addr)
  /-- B3: LAX izy, R372. -/
  | laxIzy (b : Byte)
  /-- B7: LAX zpy, R372. -/
  | laxZpy (b : Byte)
  /-- BF: LAX aby, R372. -/
  | laxAby (w : Addr)
  /-- 83: SAX izx, R373. -/
  | saxIzx (b : Byte)
  /-- 87: SAX zp, R373. -/
  | saxZp (b : Byte)
  /-- 8F: SAX abs, R373. -/
  | saxAbs (w : Addr)
  /-- 97: SAX zpy, R373. -/
  | saxZpy (b : Byte)
  /-- EB: SBC imm, R374. -/
  | sbcImmEB (b : Byte)
  /-- C3: DCP izx, R375. -/
  | dcpIzx (b : Byte)
  /-- C7: DCP zp, R375. -/
  | dcpZp (b : Byte)
  /-- CF: DCP abs, R375. -/
  | dcpAbs (w : Addr)
  /-- D3: DCP izy, R375. -/
  | dcpIzy (b : Byte)
  /-- D7: DCP zpx, R375. -/
  | dcpZpx (b : Byte)
  /-- DB: DCP aby, R375. -/
  | dcpAby (w : Addr)
  /-- DF: DCP abx, R375. -/
  | dcpAbx (w : Addr)
  /-- E3: ISB izx, R376. -/
  | isbIzx (b : Byte)
  /-- E7: ISB zp, R376. -/
  | isbZp (b : Byte)
  /-- EF: ISB abs, R376. -/
  | isbAbs (w : Addr)
  /-- F3: ISB izy, R376. -/
  | isbIzy (b : Byte)
  /-- F7: ISB zpx, R376. -/
  | isbZpx (b : Byte)
  /-- FB: ISB aby, R376. -/
  | isbAby (w : Addr)
  /-- FF: ISB abx, R376. -/
  | isbAbx (w : Addr)
  /-- 03: SLO izx, R377. -/
  | sloIzx (b : Byte)
  /-- 07: SLO zp, R377. -/
  | sloZp (b : Byte)
  /-- 0F: SLO abs, R377. -/
  | sloAbs (w : Addr)
  /-- 13: SLO izy, R377. -/
  | sloIzy (b : Byte)
  /-- 17: SLO zpx, R377. -/
  | sloZpx (b : Byte)
  /-- 1B: SLO aby, R377. -/
  | sloAby (w : Addr)
  /-- 1F: SLO abx, R377. -/
  | sloAbx (w : Addr)
  /-- 23: RLA izx, R378. -/
  | rlaIzx (b : Byte)
  /-- 27: RLA zp, R378. -/
  | rlaZp (b : Byte)
  /-- 2F: RLA abs, R378. -/
  | rlaAbs (w : Addr)
  /-- 33: RLA izy, R378. -/
  | rlaIzy (b : Byte)
  /-- 37: RLA zpx, R378. -/
  | rlaZpx (b : Byte)
  /-- 3B: RLA aby, R378. -/
  | rlaAby (w : Addr)
  /-- 3F: RLA abx, R378. -/
  | rlaAbx (w : Addr)
  /-- 43: SRE izx, R379. -/
  | sreIzx (b : Byte)
  /-- 47: SRE zp, R379. -/
  | sreZp (b : Byte)
  /-- 4F: SRE abs, R379. -/
  | sreAbs (w : Addr)
  /-- 53: SRE izy, R379. -/
  | sreIzy (b : Byte)
  /-- 57: SRE zpx, R379. -/
  | sreZpx (b : Byte)
  /-- 5B: SRE aby, R379. -/
  | sreAby (w : Addr)
  /-- 5F: SRE abx, R379. -/
  | sreAbx (w : Addr)
  /-- 63: RRA izx, R380. -/
  | rraIzx (b : Byte)
  /-- 67: RRA zp, R380. -/
  | rraZp (b : Byte)
  /-- 6F: RRA abs, R380. -/
  | rraAbs (w : Addr)
  /-- 73: RRA izy, R380. -/
  | rraIzy (b : Byte)
  /-- 77: RRA zpx, R380. -/
  | rraZpx (b : Byte)
  /-- 7B: RRA aby, R380. -/
  | rraAby (w : Addr)
  /-- 7F: RRA abx, R380. -/
  | rraAbx (w : Addr)
  -- 47 always illegal
  /-- 0B: ANC imm, R381. -/
  | anc0B (b : Byte)
  /-- 2B: ANC imm, R381. -/
  | anc2B (b : Byte)
  /-- 4B: ALR imm, R381. -/
  | alrImm (b : Byte)
  /-- 6B: ARR imm, R381. -/
  | arrImm (b : Byte)
  /-- 8B: ANE imm, R381. -/
  | aneImm (b : Byte)
  /-- AB: LXA imm, R381. -/
  | lxaImm (b : Byte)
  /-- CB: SBX imm, R381. -/
  | sbxImm (b : Byte)
  /-- 93: SHA izy, R381. -/
  | shaIzy (b : Byte)
  /-- 9F: SHA aby, R381. -/
  | shaAby (w : Addr)
  /-- 9C: SHY abx, R381. -/
  | shyAbx (w : Addr)
  /-- 9E: SHX aby, R381. -/
  | shxAby (w : Addr)
  /-- 9B: TAS aby, R381. -/
  | tasAby (w : Addr)
  /-- BB: LAS aby, R381. -/
  | lasAby (w : Addr)
  /-- 02: JAM impl, R381. -/
  | jam02
  /-- 12: JAM impl, R381. -/
  | jam12
  /-- 22: JAM impl, R381. -/
  | jam22
  /-- 32: JAM impl, R381. -/
  | jam32
  /-- 42: JAM impl, R381. -/
  | jam42
  /-- 52: JAM impl, R381. -/
  | jam52
  /-- 62: JAM impl, R381. -/
  | jam62
  /-- 72: JAM impl, R381. -/
  | jam72
  /-- 92: JAM impl, R381. -/
  | jam92
  /-- B2: JAM impl, R381. -/
  | jamB2
  /-- D2: JAM impl, R381. -/
  | jamD2
  /-- F2: JAM impl, R381. -/
  | jamF2
  deriving DecidableEq, Repr

end Sys2Proof
end

