-- ==== Sys2Proof/WellFormed.lean ====
section
/-! DEFINITION. Which instructions are well formed. Every field of `Instr` has exactly its encoded width, so the one check there is (R160, R161, R370, R381) is whether the opcode has an executable row under the parameter `UNOFFICIAL_OPCODES`. -/

namespace Sys2Proof

/-- The three classes of opcode bytes of R160. -/
inductive Status where
  /-- One of the 151 documented opcodes. -/
  | documented
  /-- One of the 80 unofficial opcodes of R371 to R380. -/
  | unofficial
  /-- One of the 25 opcodes of R381 that always raise `IllegalOpcode`. -/
  | alwaysIllegal
  deriving DecidableEq, Repr

/-- The class of an instruction's opcode (R156: plain, `*` and `!` cells). -/
def Instr.status : Instr → Status
  | .brk | .oraIzx _ | .oraZp _ | .aslZp _ | .php | .oraImm _ | .aslAcc | .oraAbs _ | .aslAbs _ | .bpl _
  | .oraIzy _ | .oraZpx _ | .aslZpx _ | .clc | .oraAby _ | .oraAbx _ | .aslAbx _ | .jsrAbs _ | .andIzx _
  | .bitZp _ | .andZp _ | .rolZp _ | .plp | .andImm _ | .rolAcc | .bitAbs _ | .andAbs _ | .rolAbs _ | .bmi _
  | .andIzy _ | .andZpx _ | .rolZpx _ | .sec | .andAby _ | .andAbx _ | .rolAbx _ | .rti | .eorIzx _
  | .eorZp _ | .lsrZp _ | .pha | .eorImm _ | .lsrAcc | .jmpAbs _ | .eorAbs _ | .lsrAbs _ | .bvc _ | .eorIzy _
  | .eorZpx _ | .lsrZpx _ | .cli | .eorAby _ | .eorAbx _ | .lsrAbx _ | .rts | .adcIzx _ | .adcZp _ | .rorZp _
  | .pla | .adcImm _ | .rorAcc | .jmpInd _ | .adcAbs _ | .rorAbs _ | .bvs _ | .adcIzy _ | .adcZpx _
  | .rorZpx _ | .sei | .adcAby _ | .adcAbx _ | .rorAbx _ | .staIzx _ | .styZp _ | .staZp _ | .stxZp _ | .dey
  | .txa | .styAbs _ | .staAbs _ | .stxAbs _ | .bcc _ | .staIzy _ | .styZpx _ | .staZpx _ | .stxZpy _ | .tya
  | .staAby _ | .txs | .staAbx _ | .ldyImm _ | .ldaIzx _ | .ldxImm _ | .ldyZp _ | .ldaZp _ | .ldxZp _ | .tay
  | .ldaImm _ | .tax | .ldyAbs _ | .ldaAbs _ | .ldxAbs _ | .bcs _ | .ldaIzy _ | .ldyZpx _ | .ldaZpx _
  | .ldxZpy _ | .clv | .ldaAby _ | .tsx | .ldyAbx _ | .ldaAbx _ | .ldxAby _ | .cpyImm _ | .cmpIzx _
  | .cpyZp _ | .cmpZp _ | .decZp _ | .iny | .cmpImm _ | .dex | .cpyAbs _ | .cmpAbs _ | .decAbs _ | .bne _
  | .cmpIzy _ | .cmpZpx _ | .decZpx _ | .cld | .cmpAby _ | .cmpAbx _ | .decAbx _ | .cpxImm _ | .sbcIzx _
  | .cpxZp _ | .sbcZp _ | .incZp _ | .inx | .sbcImm _ | .nop | .cpxAbs _ | .sbcAbs _ | .incAbs _ | .beq _
  | .sbcIzy _ | .sbcZpx _ | .incZpx _ | .sed | .sbcAby _ | .sbcAbx _ | .incAbx _ => .documented
  | .sloIzx _ | .nop04 _ | .sloZp _ | .nop0C _ | .sloAbs _ | .sloIzy _ | .nop14 _ | .sloZpx _ | .nop1A
  | .sloAby _ | .nop1C _ | .sloAbx _ | .rlaIzx _ | .rlaZp _ | .rlaAbs _ | .rlaIzy _ | .nop34 _ | .rlaZpx _
  | .nop3A | .rlaAby _ | .nop3C _ | .rlaAbx _ | .sreIzx _ | .nop44 _ | .sreZp _ | .sreAbs _ | .sreIzy _
  | .nop54 _ | .sreZpx _ | .nop5A | .sreAby _ | .nop5C _ | .sreAbx _ | .rraIzx _ | .nop64 _ | .rraZp _
  | .rraAbs _ | .rraIzy _ | .nop74 _ | .rraZpx _ | .nop7A | .rraAby _ | .nop7C _ | .rraAbx _ | .nop80 _
  | .nop82 _ | .saxIzx _ | .saxZp _ | .nop89 _ | .saxAbs _ | .saxZpy _ | .laxIzx _ | .laxZp _ | .laxAbs _
  | .laxIzy _ | .laxZpy _ | .laxAby _ | .nopC2 _ | .dcpIzx _ | .dcpZp _ | .dcpAbs _ | .dcpIzy _ | .nopD4 _
  | .dcpZpx _ | .nopDA | .dcpAby _ | .nopDC _ | .dcpAbx _ | .nopE2 _ | .isbIzx _ | .isbZp _ | .sbcImmEB _
  | .isbAbs _ | .isbIzy _ | .nopF4 _ | .isbZpx _ | .nopFA | .isbAby _ | .nopFC _ | .isbAbx _ => .unofficial
  | .jam02 | .anc0B _ | .jam12 | .jam22 | .anc2B _ | .jam32 | .jam42 | .alrImm _ | .jam52 | .jam62
  | .arrImm _ | .jam72 | .aneImm _ | .jam92 | .shaIzy _ | .tasAby _ | .shyAbx _ | .shxAby _ | .shaAby _
  | .lxaImm _ | .jamB2 | .lasAby _ | .sbxImm _ | .jamD2 | .jamF2 => .alwaysIllegal

/-- An instruction is well formed under a value of `UNOFFICIAL_OPCODES` when its opcode has an executable row (R161): a documented one always, an unofficial one under `nestest` only (R370), an always-illegal one never (R381). -/
def WellFormed (m : Unofficial) (i : Instr) : Bool :=
  match i.status with
  | .documented => true
  | .unofficial => decide (m = .nestest)
  | .alwaysIllegal => false

end Sys2Proof
end

