-- ==== Sys2Proof/Decode.lean ====
section
/-! DEFINITION. The decoder and the encoder (spec/30_encoding.md). `opcodeTable` is the opcode map of R156, one row per opcode byte in order; the CPU's fetch, the decoder and the trace all use it (R166). -/

namespace Sys2Proof

/-- `hi:lo` of R11 for two bytes: the 16-bit value of R153, low byte first in memory (R106). -/
def word16 (hi lo : Byte) : Addr := hi ++ lo

/-- Bits 7 to 0 of a 16-bit value. -/
def lowByte (w : Addr) : Byte := w.extractLsb' 0 8

/-- Bits 15 to 8 of a 16-bit value. -/
def highByte (w : Addr) : Byte := w.extractLsb' 8 8

/-- What follows the opcode byte (R151): nothing, one operand byte, or two operand bytes that make a 16-bit field. -/
inductive Shape where
  | op0 (i : Instr)
  | op1 (f : Byte → Instr)
  | op2 (f : Addr → Instr)

/-- A row of the opcode map: a cell `MNEMONIC mode` of R156 and the instruction it builds. -/
structure Row where
  mnemonic : String
  mode : Mode
  shape : Shape

/-- Row 0x of the opcode map (R156). -/
def opcodeRow0 : List Row :=
  [ ⟨"BRK", .impl, .op0 .brk⟩, ⟨"ORA", .izx, .op1 .oraIzx⟩,
    ⟨"JAM", .impl, .op0 .jam02⟩, ⟨"SLO", .izx, .op1 .sloIzx⟩,
    ⟨"NOP", .zp, .op1 .nop04⟩, ⟨"ORA", .zp, .op1 .oraZp⟩,
    ⟨"ASL", .zp, .op1 .aslZp⟩, ⟨"SLO", .zp, .op1 .sloZp⟩,
    ⟨"PHP", .impl, .op0 .php⟩, ⟨"ORA", .imm, .op1 .oraImm⟩,
    ⟨"ASL", .acc, .op0 .aslAcc⟩, ⟨"ANC", .imm, .op1 .anc0B⟩,
    ⟨"NOP", .abs, .op2 .nop0C⟩, ⟨"ORA", .abs, .op2 .oraAbs⟩,
    ⟨"ASL", .abs, .op2 .aslAbs⟩, ⟨"SLO", .abs, .op2 .sloAbs⟩ ]

/-- Row 1x of the opcode map (R156). -/
def opcodeRow1 : List Row :=
  [ ⟨"BPL", .rel, .op1 .bpl⟩, ⟨"ORA", .izy, .op1 .oraIzy⟩,
    ⟨"JAM", .impl, .op0 .jam12⟩, ⟨"SLO", .izy, .op1 .sloIzy⟩,
    ⟨"NOP", .zpx, .op1 .nop14⟩, ⟨"ORA", .zpx, .op1 .oraZpx⟩,
    ⟨"ASL", .zpx, .op1 .aslZpx⟩, ⟨"SLO", .zpx, .op1 .sloZpx⟩,
    ⟨"CLC", .impl, .op0 .clc⟩, ⟨"ORA", .aby, .op2 .oraAby⟩,
    ⟨"NOP", .impl, .op0 .nop1A⟩, ⟨"SLO", .aby, .op2 .sloAby⟩,
    ⟨"NOP", .abx, .op2 .nop1C⟩, ⟨"ORA", .abx, .op2 .oraAbx⟩,
    ⟨"ASL", .abx, .op2 .aslAbx⟩, ⟨"SLO", .abx, .op2 .sloAbx⟩ ]

/-- Row 2x of the opcode map (R156). -/
def opcodeRow2 : List Row :=
  [ ⟨"JSR", .abs, .op2 .jsrAbs⟩, ⟨"AND", .izx, .op1 .andIzx⟩,
    ⟨"JAM", .impl, .op0 .jam22⟩, ⟨"RLA", .izx, .op1 .rlaIzx⟩,
    ⟨"BIT", .zp, .op1 .bitZp⟩, ⟨"AND", .zp, .op1 .andZp⟩,
    ⟨"ROL", .zp, .op1 .rolZp⟩, ⟨"RLA", .zp, .op1 .rlaZp⟩,
    ⟨"PLP", .impl, .op0 .plp⟩, ⟨"AND", .imm, .op1 .andImm⟩,
    ⟨"ROL", .acc, .op0 .rolAcc⟩, ⟨"ANC", .imm, .op1 .anc2B⟩,
    ⟨"BIT", .abs, .op2 .bitAbs⟩, ⟨"AND", .abs, .op2 .andAbs⟩,
    ⟨"ROL", .abs, .op2 .rolAbs⟩, ⟨"RLA", .abs, .op2 .rlaAbs⟩ ]

/-- Row 3x of the opcode map (R156). -/
def opcodeRow3 : List Row :=
  [ ⟨"BMI", .rel, .op1 .bmi⟩, ⟨"AND", .izy, .op1 .andIzy⟩,
    ⟨"JAM", .impl, .op0 .jam32⟩, ⟨"RLA", .izy, .op1 .rlaIzy⟩,
    ⟨"NOP", .zpx, .op1 .nop34⟩, ⟨"AND", .zpx, .op1 .andZpx⟩,
    ⟨"ROL", .zpx, .op1 .rolZpx⟩, ⟨"RLA", .zpx, .op1 .rlaZpx⟩,
    ⟨"SEC", .impl, .op0 .sec⟩, ⟨"AND", .aby, .op2 .andAby⟩,
    ⟨"NOP", .impl, .op0 .nop3A⟩, ⟨"RLA", .aby, .op2 .rlaAby⟩,
    ⟨"NOP", .abx, .op2 .nop3C⟩, ⟨"AND", .abx, .op2 .andAbx⟩,
    ⟨"ROL", .abx, .op2 .rolAbx⟩, ⟨"RLA", .abx, .op2 .rlaAbx⟩ ]

/-- Row 4x of the opcode map (R156). -/
def opcodeRow4 : List Row :=
  [ ⟨"RTI", .impl, .op0 .rti⟩, ⟨"EOR", .izx, .op1 .eorIzx⟩,
    ⟨"JAM", .impl, .op0 .jam42⟩, ⟨"SRE", .izx, .op1 .sreIzx⟩,
    ⟨"NOP", .zp, .op1 .nop44⟩, ⟨"EOR", .zp, .op1 .eorZp⟩,
    ⟨"LSR", .zp, .op1 .lsrZp⟩, ⟨"SRE", .zp, .op1 .sreZp⟩,
    ⟨"PHA", .impl, .op0 .pha⟩, ⟨"EOR", .imm, .op1 .eorImm⟩,
    ⟨"LSR", .acc, .op0 .lsrAcc⟩, ⟨"ALR", .imm, .op1 .alrImm⟩,
    ⟨"JMP", .abs, .op2 .jmpAbs⟩, ⟨"EOR", .abs, .op2 .eorAbs⟩,
    ⟨"LSR", .abs, .op2 .lsrAbs⟩, ⟨"SRE", .abs, .op2 .sreAbs⟩ ]

/-- Row 5x of the opcode map (R156). -/
def opcodeRow5 : List Row :=
  [ ⟨"BVC", .rel, .op1 .bvc⟩, ⟨"EOR", .izy, .op1 .eorIzy⟩,
    ⟨"JAM", .impl, .op0 .jam52⟩, ⟨"SRE", .izy, .op1 .sreIzy⟩,
    ⟨"NOP", .zpx, .op1 .nop54⟩, ⟨"EOR", .zpx, .op1 .eorZpx⟩,
    ⟨"LSR", .zpx, .op1 .lsrZpx⟩, ⟨"SRE", .zpx, .op1 .sreZpx⟩,
    ⟨"CLI", .impl, .op0 .cli⟩, ⟨"EOR", .aby, .op2 .eorAby⟩,
    ⟨"NOP", .impl, .op0 .nop5A⟩, ⟨"SRE", .aby, .op2 .sreAby⟩,
    ⟨"NOP", .abx, .op2 .nop5C⟩, ⟨"EOR", .abx, .op2 .eorAbx⟩,
    ⟨"LSR", .abx, .op2 .lsrAbx⟩, ⟨"SRE", .abx, .op2 .sreAbx⟩ ]

/-- Row 6x of the opcode map (R156). -/
def opcodeRow6 : List Row :=
  [ ⟨"RTS", .impl, .op0 .rts⟩, ⟨"ADC", .izx, .op1 .adcIzx⟩,
    ⟨"JAM", .impl, .op0 .jam62⟩, ⟨"RRA", .izx, .op1 .rraIzx⟩,
    ⟨"NOP", .zp, .op1 .nop64⟩, ⟨"ADC", .zp, .op1 .adcZp⟩,
    ⟨"ROR", .zp, .op1 .rorZp⟩, ⟨"RRA", .zp, .op1 .rraZp⟩,
    ⟨"PLA", .impl, .op0 .pla⟩, ⟨"ADC", .imm, .op1 .adcImm⟩,
    ⟨"ROR", .acc, .op0 .rorAcc⟩, ⟨"ARR", .imm, .op1 .arrImm⟩,
    ⟨"JMP", .ind, .op2 .jmpInd⟩, ⟨"ADC", .abs, .op2 .adcAbs⟩,
    ⟨"ROR", .abs, .op2 .rorAbs⟩, ⟨"RRA", .abs, .op2 .rraAbs⟩ ]

/-- Row 7x of the opcode map (R156). -/
def opcodeRow7 : List Row :=
  [ ⟨"BVS", .rel, .op1 .bvs⟩, ⟨"ADC", .izy, .op1 .adcIzy⟩,
    ⟨"JAM", .impl, .op0 .jam72⟩, ⟨"RRA", .izy, .op1 .rraIzy⟩,
    ⟨"NOP", .zpx, .op1 .nop74⟩, ⟨"ADC", .zpx, .op1 .adcZpx⟩,
    ⟨"ROR", .zpx, .op1 .rorZpx⟩, ⟨"RRA", .zpx, .op1 .rraZpx⟩,
    ⟨"SEI", .impl, .op0 .sei⟩, ⟨"ADC", .aby, .op2 .adcAby⟩,
    ⟨"NOP", .impl, .op0 .nop7A⟩, ⟨"RRA", .aby, .op2 .rraAby⟩,
    ⟨"NOP", .abx, .op2 .nop7C⟩, ⟨"ADC", .abx, .op2 .adcAbx⟩,
    ⟨"ROR", .abx, .op2 .rorAbx⟩, ⟨"RRA", .abx, .op2 .rraAbx⟩ ]

/-- Row 8x of the opcode map (R156). -/
def opcodeRow8 : List Row :=
  [ ⟨"NOP", .imm, .op1 .nop80⟩, ⟨"STA", .izx, .op1 .staIzx⟩,
    ⟨"NOP", .imm, .op1 .nop82⟩, ⟨"SAX", .izx, .op1 .saxIzx⟩,
    ⟨"STY", .zp, .op1 .styZp⟩, ⟨"STA", .zp, .op1 .staZp⟩,
    ⟨"STX", .zp, .op1 .stxZp⟩, ⟨"SAX", .zp, .op1 .saxZp⟩,
    ⟨"DEY", .impl, .op0 .dey⟩, ⟨"NOP", .imm, .op1 .nop89⟩,
    ⟨"TXA", .impl, .op0 .txa⟩, ⟨"ANE", .imm, .op1 .aneImm⟩,
    ⟨"STY", .abs, .op2 .styAbs⟩, ⟨"STA", .abs, .op2 .staAbs⟩,
    ⟨"STX", .abs, .op2 .stxAbs⟩, ⟨"SAX", .abs, .op2 .saxAbs⟩ ]

/-- Row 9x of the opcode map (R156). -/
def opcodeRow9 : List Row :=
  [ ⟨"BCC", .rel, .op1 .bcc⟩, ⟨"STA", .izy, .op1 .staIzy⟩,
    ⟨"JAM", .impl, .op0 .jam92⟩, ⟨"SHA", .izy, .op1 .shaIzy⟩,
    ⟨"STY", .zpx, .op1 .styZpx⟩, ⟨"STA", .zpx, .op1 .staZpx⟩,
    ⟨"STX", .zpy, .op1 .stxZpy⟩, ⟨"SAX", .zpy, .op1 .saxZpy⟩,
    ⟨"TYA", .impl, .op0 .tya⟩, ⟨"STA", .aby, .op2 .staAby⟩,
    ⟨"TXS", .impl, .op0 .txs⟩, ⟨"TAS", .aby, .op2 .tasAby⟩,
    ⟨"SHY", .abx, .op2 .shyAbx⟩, ⟨"STA", .abx, .op2 .staAbx⟩,
    ⟨"SHX", .aby, .op2 .shxAby⟩, ⟨"SHA", .aby, .op2 .shaAby⟩ ]

/-- Row Ax of the opcode map (R156). -/
def opcodeRowA : List Row :=
  [ ⟨"LDY", .imm, .op1 .ldyImm⟩, ⟨"LDA", .izx, .op1 .ldaIzx⟩,
    ⟨"LDX", .imm, .op1 .ldxImm⟩, ⟨"LAX", .izx, .op1 .laxIzx⟩,
    ⟨"LDY", .zp, .op1 .ldyZp⟩, ⟨"LDA", .zp, .op1 .ldaZp⟩,
    ⟨"LDX", .zp, .op1 .ldxZp⟩, ⟨"LAX", .zp, .op1 .laxZp⟩,
    ⟨"TAY", .impl, .op0 .tay⟩, ⟨"LDA", .imm, .op1 .ldaImm⟩,
    ⟨"TAX", .impl, .op0 .tax⟩, ⟨"LXA", .imm, .op1 .lxaImm⟩,
    ⟨"LDY", .abs, .op2 .ldyAbs⟩, ⟨"LDA", .abs, .op2 .ldaAbs⟩,
    ⟨"LDX", .abs, .op2 .ldxAbs⟩, ⟨"LAX", .abs, .op2 .laxAbs⟩ ]

/-- Row Bx of the opcode map (R156). -/
def opcodeRowB : List Row :=
  [ ⟨"BCS", .rel, .op1 .bcs⟩, ⟨"LDA", .izy, .op1 .ldaIzy⟩,
    ⟨"JAM", .impl, .op0 .jamB2⟩, ⟨"LAX", .izy, .op1 .laxIzy⟩,
    ⟨"LDY", .zpx, .op1 .ldyZpx⟩, ⟨"LDA", .zpx, .op1 .ldaZpx⟩,
    ⟨"LDX", .zpy, .op1 .ldxZpy⟩, ⟨"LAX", .zpy, .op1 .laxZpy⟩,
    ⟨"CLV", .impl, .op0 .clv⟩, ⟨"LDA", .aby, .op2 .ldaAby⟩,
    ⟨"TSX", .impl, .op0 .tsx⟩, ⟨"LAS", .aby, .op2 .lasAby⟩,
    ⟨"LDY", .abx, .op2 .ldyAbx⟩, ⟨"LDA", .abx, .op2 .ldaAbx⟩,
    ⟨"LDX", .aby, .op2 .ldxAby⟩, ⟨"LAX", .aby, .op2 .laxAby⟩ ]

/-- Row Cx of the opcode map (R156). -/
def opcodeRowC : List Row :=
  [ ⟨"CPY", .imm, .op1 .cpyImm⟩, ⟨"CMP", .izx, .op1 .cmpIzx⟩,
    ⟨"NOP", .imm, .op1 .nopC2⟩, ⟨"DCP", .izx, .op1 .dcpIzx⟩,
    ⟨"CPY", .zp, .op1 .cpyZp⟩, ⟨"CMP", .zp, .op1 .cmpZp⟩,
    ⟨"DEC", .zp, .op1 .decZp⟩, ⟨"DCP", .zp, .op1 .dcpZp⟩,
    ⟨"INY", .impl, .op0 .iny⟩, ⟨"CMP", .imm, .op1 .cmpImm⟩,
    ⟨"DEX", .impl, .op0 .dex⟩, ⟨"SBX", .imm, .op1 .sbxImm⟩,
    ⟨"CPY", .abs, .op2 .cpyAbs⟩, ⟨"CMP", .abs, .op2 .cmpAbs⟩,
    ⟨"DEC", .abs, .op2 .decAbs⟩, ⟨"DCP", .abs, .op2 .dcpAbs⟩ ]

/-- Row Dx of the opcode map (R156). -/
def opcodeRowD : List Row :=
  [ ⟨"BNE", .rel, .op1 .bne⟩, ⟨"CMP", .izy, .op1 .cmpIzy⟩,
    ⟨"JAM", .impl, .op0 .jamD2⟩, ⟨"DCP", .izy, .op1 .dcpIzy⟩,
    ⟨"NOP", .zpx, .op1 .nopD4⟩, ⟨"CMP", .zpx, .op1 .cmpZpx⟩,
    ⟨"DEC", .zpx, .op1 .decZpx⟩, ⟨"DCP", .zpx, .op1 .dcpZpx⟩,
    ⟨"CLD", .impl, .op0 .cld⟩, ⟨"CMP", .aby, .op2 .cmpAby⟩,
    ⟨"NOP", .impl, .op0 .nopDA⟩, ⟨"DCP", .aby, .op2 .dcpAby⟩,
    ⟨"NOP", .abx, .op2 .nopDC⟩, ⟨"CMP", .abx, .op2 .cmpAbx⟩,
    ⟨"DEC", .abx, .op2 .decAbx⟩, ⟨"DCP", .abx, .op2 .dcpAbx⟩ ]

/-- Row Ex of the opcode map (R156). -/
def opcodeRowE : List Row :=
  [ ⟨"CPX", .imm, .op1 .cpxImm⟩, ⟨"SBC", .izx, .op1 .sbcIzx⟩,
    ⟨"NOP", .imm, .op1 .nopE2⟩, ⟨"ISB", .izx, .op1 .isbIzx⟩,
    ⟨"CPX", .zp, .op1 .cpxZp⟩, ⟨"SBC", .zp, .op1 .sbcZp⟩,
    ⟨"INC", .zp, .op1 .incZp⟩, ⟨"ISB", .zp, .op1 .isbZp⟩,
    ⟨"INX", .impl, .op0 .inx⟩, ⟨"SBC", .imm, .op1 .sbcImm⟩,
    ⟨"NOP", .impl, .op0 .nop⟩, ⟨"SBC", .imm, .op1 .sbcImmEB⟩,
    ⟨"CPX", .abs, .op2 .cpxAbs⟩, ⟨"SBC", .abs, .op2 .sbcAbs⟩,
    ⟨"INC", .abs, .op2 .incAbs⟩, ⟨"ISB", .abs, .op2 .isbAbs⟩ ]

/-- Row Fx of the opcode map (R156). -/
def opcodeRowF : List Row :=
  [ ⟨"BEQ", .rel, .op1 .beq⟩, ⟨"SBC", .izy, .op1 .sbcIzy⟩,
    ⟨"JAM", .impl, .op0 .jamF2⟩, ⟨"ISB", .izy, .op1 .isbIzy⟩,
    ⟨"NOP", .zpx, .op1 .nopF4⟩, ⟨"SBC", .zpx, .op1 .sbcZpx⟩,
    ⟨"INC", .zpx, .op1 .incZpx⟩, ⟨"ISB", .zpx, .op1 .isbZpx⟩,
    ⟨"SED", .impl, .op0 .sed⟩, ⟨"SBC", .aby, .op2 .sbcAby⟩,
    ⟨"NOP", .impl, .op0 .nopFA⟩, ⟨"ISB", .aby, .op2 .isbAby⟩,
    ⟨"NOP", .abx, .op2 .nopFC⟩, ⟨"SBC", .abx, .op2 .sbcAbx⟩,
    ⟨"INC", .abx, .op2 .incAbx⟩, ⟨"ISB", .abx, .op2 .isbAbx⟩ ]

/-- The opcode map of R156: entry `n` is the row of opcode byte `n`. -/
def opcodeTable : List Row :=
  opcodeRow0 ++ opcodeRow1 ++ opcodeRow2 ++ opcodeRow3 ++ opcodeRow4 ++ opcodeRow5 ++ opcodeRow6 ++ opcodeRow7 ++
  opcodeRow8 ++ opcodeRow9 ++ opcodeRowA ++ opcodeRowB ++ opcodeRowC ++ opcodeRowD ++ opcodeRowE ++ opcodeRowF

/-- The row of an opcode byte (R154: the first byte alone selects it); every byte has one (R160). -/
def rowOf (op : Byte) : Option Row := opcodeTable[op.toNat]?

/-- Why bytes decode to no instruction. -/
inductive DecodeError where
  /-- There is no byte to decode. -/
  | noOpcode
  /-- The opcode map has no row for this byte (it never happens, R160). -/
  | noRow (op : Byte)
  /-- Fewer operand bytes are left than the mode of this opcode takes (R152). -/
  | missingOperand (op : Byte)
  deriving DecidableEq, Repr

/-- `Decode` of R150 to R154: the instruction at the head of a byte string, and the bytes after it. -/
def decode : List Byte → Except DecodeError (Instr × List Byte)
  | [] => .error .noOpcode
  | op :: rest =>
    match rowOf op with
    | none => .error (.noRow op)
    | some row =>
      match row.shape, rest with
      | .op0 i, r => .ok (i, r)
      | .op1 f, b :: r => .ok (f b, r)
      | .op2 f, lo :: hi :: r => .ok (f (word16 hi lo), r)
      | .op1 _, [] => .error (.missingOperand op)
      | .op2 _, [] => .error (.missingOperand op)
      | .op2 _, [_] => .error (.missingOperand op)

/-- The first instruction of the bytes of `w`, bit 0 of `w` being bit 0 of the first byte and every bit from `nbits` on being 0. -/
def decodeTableWord (nbits w : Nat) : Option Instr :=
  let v := w % 2 ^ nbits
  match decode [BitVec.ofNat 8 v, BitVec.ofNat 8 (v / 2 ^ 8), BitVec.ofNat 8 (v / 2 ^ 16)] with
  | .ok (i, _) => some i
  | .error _ => none

/-- The bytes of an instruction (R151, R156, R157): opcode, then the operand field, low byte first. -/
def encode : Instr → List Byte
  -- 41 loads, stores, transfers
  | .ldaIzx b => [0xA1, b]
  | .ldaZp b => [0xA5, b]
  | .ldaImm b => [0xA9, b]
  | .ldaAbs w => [0xAD, lowByte w, highByte w]
  | .ldaIzy b => [0xB1, b]
  | .ldaZpx b => [0xB5, b]
  | .ldaAby w => [0xB9, lowByte w, highByte w]
  | .ldaAbx w => [0xBD, lowByte w, highByte w]
  | .ldxImm b => [0xA2, b]
  | .ldxZp b => [0xA6, b]
  | .ldxAbs w => [0xAE, lowByte w, highByte w]
  | .ldxZpy b => [0xB6, b]
  | .ldxAby w => [0xBE, lowByte w, highByte w]
  | .ldyImm b => [0xA0, b]
  | .ldyZp b => [0xA4, b]
  | .ldyAbs w => [0xAC, lowByte w, highByte w]
  | .ldyZpx b => [0xB4, b]
  | .ldyAbx w => [0xBC, lowByte w, highByte w]
  | .staIzx b => [0x81, b]
  | .staZp b => [0x85, b]
  | .staAbs w => [0x8D, lowByte w, highByte w]
  | .staIzy b => [0x91, b]
  | .staZpx b => [0x95, b]
  | .staAby w => [0x99, lowByte w, highByte w]
  | .staAbx w => [0x9D, lowByte w, highByte w]
  | .stxZp b => [0x86, b]
  | .stxAbs w => [0x8E, lowByte w, highByte w]
  | .stxZpy b => [0x96, b]
  | .styZp b => [0x84, b]
  | .styAbs w => [0x8C, lowByte w, highByte w]
  | .styZpx b => [0x94, b]
  | .tax => [0xAA]
  | .tay => [0xA8]
  | .txa => [0x8A]
  | .tya => [0x98]
  | .tsx => [0xBA]
  | .txs => [0x9A]
  -- 42 stack
  | .pha => [0x48]
  | .php => [0x08]
  | .pla => [0x68]
  | .plp => [0x28]
  -- 43 arithmetic, logic, bit test, compare
  | .adcIzx b => [0x61, b]
  | .adcZp b => [0x65, b]
  | .adcImm b => [0x69, b]
  | .adcAbs w => [0x6D, lowByte w, highByte w]
  | .adcIzy b => [0x71, b]
  | .adcZpx b => [0x75, b]
  | .adcAby w => [0x79, lowByte w, highByte w]
  | .adcAbx w => [0x7D, lowByte w, highByte w]
  | .sbcIzx b => [0xE1, b]
  | .sbcZp b => [0xE5, b]
  | .sbcImm b => [0xE9, b]
  | .sbcAbs w => [0xED, lowByte w, highByte w]
  | .sbcIzy b => [0xF1, b]
  | .sbcZpx b => [0xF5, b]
  | .sbcAby w => [0xF9, lowByte w, highByte w]
  | .sbcAbx w => [0xFD, lowByte w, highByte w]
  | .andIzx b => [0x21, b]
  | .andZp b => [0x25, b]
  | .andImm b => [0x29, b]
  | .andAbs w => [0x2D, lowByte w, highByte w]
  | .andIzy b => [0x31, b]
  | .andZpx b => [0x35, b]
  | .andAby w => [0x39, lowByte w, highByte w]
  | .andAbx w => [0x3D, lowByte w, highByte w]
  | .oraIzx b => [0x01, b]
  | .oraZp b => [0x05, b]
  | .oraImm b => [0x09, b]
  | .oraAbs w => [0x0D, lowByte w, highByte w]
  | .oraIzy b => [0x11, b]
  | .oraZpx b => [0x15, b]
  | .oraAby w => [0x19, lowByte w, highByte w]
  | .oraAbx w => [0x1D, lowByte w, highByte w]
  | .eorIzx b => [0x41, b]
  | .eorZp b => [0x45, b]
  | .eorImm b => [0x49, b]
  | .eorAbs w => [0x4D, lowByte w, highByte w]
  | .eorIzy b => [0x51, b]
  | .eorZpx b => [0x55, b]
  | .eorAby w => [0x59, lowByte w, highByte w]
  | .eorAbx w => [0x5D, lowByte w, highByte w]
  | .bitZp b => [0x24, b]
  | .bitAbs w => [0x2C, lowByte w, highByte w]
  | .cmpIzx b => [0xC1, b]
  | .cmpZp b => [0xC5, b]
  | .cmpImm b => [0xC9, b]
  | .cmpAbs w => [0xCD, lowByte w, highByte w]
  | .cmpIzy b => [0xD1, b]
  | .cmpZpx b => [0xD5, b]
  | .cmpAby w => [0xD9, lowByte w, highByte w]
  | .cmpAbx w => [0xDD, lowByte w, highByte w]
  | .cpxImm b => [0xE0, b]
  | .cpxZp b => [0xE4, b]
  | .cpxAbs w => [0xEC, lowByte w, highByte w]
  | .cpyImm b => [0xC0, b]
  | .cpyZp b => [0xC4, b]
  | .cpyAbs w => [0xCC, lowByte w, highByte w]
  -- 44 increments, decrements, shifts
  | .incZp b => [0xE6, b]
  | .incAbs w => [0xEE, lowByte w, highByte w]
  | .incZpx b => [0xF6, b]
  | .incAbx w => [0xFE, lowByte w, highByte w]
  | .decZp b => [0xC6, b]
  | .decAbs w => [0xCE, lowByte w, highByte w]
  | .decZpx b => [0xD6, b]
  | .decAbx w => [0xDE, lowByte w, highByte w]
  | .inx => [0xE8]
  | .iny => [0xC8]
  | .dex => [0xCA]
  | .dey => [0x88]
  | .aslZp b => [0x06, b]
  | .aslAcc => [0x0A]
  | .aslAbs w => [0x0E, lowByte w, highByte w]
  | .aslZpx b => [0x16, b]
  | .aslAbx w => [0x1E, lowByte w, highByte w]
  | .lsrZp b => [0x46, b]
  | .lsrAcc => [0x4A]
  | .lsrAbs w => [0x4E, lowByte w, highByte w]
  | .lsrZpx b => [0x56, b]
  | .lsrAbx w => [0x5E, lowByte w, highByte w]
  | .rolZp b => [0x26, b]
  | .rolAcc => [0x2A]
  | .rolAbs w => [0x2E, lowByte w, highByte w]
  | .rolZpx b => [0x36, b]
  | .rolAbx w => [0x3E, lowByte w, highByte w]
  | .rorZp b => [0x66, b]
  | .rorAcc => [0x6A]
  | .rorAbs w => [0x6E, lowByte w, highByte w]
  | .rorZpx b => [0x76, b]
  | .rorAbx w => [0x7E, lowByte w, highByte w]
  -- 45 control transfer
  | .bpl b => [0x10, b]
  | .bmi b => [0x30, b]
  | .bvc b => [0x50, b]
  | .bvs b => [0x70, b]
  | .bcc b => [0x90, b]
  | .bcs b => [0xB0, b]
  | .bne b => [0xD0, b]
  | .beq b => [0xF0, b]
  | .jmpAbs w => [0x4C, lowByte w, highByte w]
  | .jmpInd w => [0x6C, lowByte w, highByte w]
  | .jsrAbs w => [0x20, lowByte w, highByte w]
  | .rts => [0x60]
  | .rti => [0x40]
  | .brk => [0x00]
  -- 46 flags, NOP
  | .clc => [0x18]
  | .sec => [0x38]
  | .cli => [0x58]
  | .sei => [0x78]
  | .cld => [0xD8]
  | .sed => [0xF8]
  | .clv => [0xB8]
  | .nop => [0xEA]
  -- 47 unofficial
  | .nop04 b => [0x04, b]
  | .nop0C w => [0x0C, lowByte w, highByte w]
  | .nop14 b => [0x14, b]
  | .nop1A => [0x1A]
  | .nop1C w => [0x1C, lowByte w, highByte w]
  | .nop34 b => [0x34, b]
  | .nop3A => [0x3A]
  | .nop3C w => [0x3C, lowByte w, highByte w]
  | .nop44 b => [0x44, b]
  | .nop54 b => [0x54, b]
  | .nop5A => [0x5A]
  | .nop5C w => [0x5C, lowByte w, highByte w]
  | .nop64 b => [0x64, b]
  | .nop74 b => [0x74, b]
  | .nop7A => [0x7A]
  | .nop7C w => [0x7C, lowByte w, highByte w]
  | .nop80 b => [0x80, b]
  | .nop82 b => [0x82, b]
  | .nop89 b => [0x89, b]
  | .nopC2 b => [0xC2, b]
  | .nopD4 b => [0xD4, b]
  | .nopDA => [0xDA]
  | .nopDC w => [0xDC, lowByte w, highByte w]
  | .nopE2 b => [0xE2, b]
  | .nopF4 b => [0xF4, b]
  | .nopFA => [0xFA]
  | .nopFC w => [0xFC, lowByte w, highByte w]
  | .laxIzx b => [0xA3, b]
  | .laxZp b => [0xA7, b]
  | .laxAbs w => [0xAF, lowByte w, highByte w]
  | .laxIzy b => [0xB3, b]
  | .laxZpy b => [0xB7, b]
  | .laxAby w => [0xBF, lowByte w, highByte w]
  | .saxIzx b => [0x83, b]
  | .saxZp b => [0x87, b]
  | .saxAbs w => [0x8F, lowByte w, highByte w]
  | .saxZpy b => [0x97, b]
  | .sbcImmEB b => [0xEB, b]
  | .dcpIzx b => [0xC3, b]
  | .dcpZp b => [0xC7, b]
  | .dcpAbs w => [0xCF, lowByte w, highByte w]
  | .dcpIzy b => [0xD3, b]
  | .dcpZpx b => [0xD7, b]
  | .dcpAby w => [0xDB, lowByte w, highByte w]
  | .dcpAbx w => [0xDF, lowByte w, highByte w]
  | .isbIzx b => [0xE3, b]
  | .isbZp b => [0xE7, b]
  | .isbAbs w => [0xEF, lowByte w, highByte w]
  | .isbIzy b => [0xF3, b]
  | .isbZpx b => [0xF7, b]
  | .isbAby w => [0xFB, lowByte w, highByte w]
  | .isbAbx w => [0xFF, lowByte w, highByte w]
  | .sloIzx b => [0x03, b]
  | .sloZp b => [0x07, b]
  | .sloAbs w => [0x0F, lowByte w, highByte w]
  | .sloIzy b => [0x13, b]
  | .sloZpx b => [0x17, b]
  | .sloAby w => [0x1B, lowByte w, highByte w]
  | .sloAbx w => [0x1F, lowByte w, highByte w]
  | .rlaIzx b => [0x23, b]
  | .rlaZp b => [0x27, b]
  | .rlaAbs w => [0x2F, lowByte w, highByte w]
  | .rlaIzy b => [0x33, b]
  | .rlaZpx b => [0x37, b]
  | .rlaAby w => [0x3B, lowByte w, highByte w]
  | .rlaAbx w => [0x3F, lowByte w, highByte w]
  | .sreIzx b => [0x43, b]
  | .sreZp b => [0x47, b]
  | .sreAbs w => [0x4F, lowByte w, highByte w]
  | .sreIzy b => [0x53, b]
  | .sreZpx b => [0x57, b]
  | .sreAby w => [0x5B, lowByte w, highByte w]
  | .sreAbx w => [0x5F, lowByte w, highByte w]
  | .rraIzx b => [0x63, b]
  | .rraZp b => [0x67, b]
  | .rraAbs w => [0x6F, lowByte w, highByte w]
  | .rraIzy b => [0x73, b]
  | .rraZpx b => [0x77, b]
  | .rraAby w => [0x7B, lowByte w, highByte w]
  | .rraAbx w => [0x7F, lowByte w, highByte w]
  -- 47 always illegal
  | .anc0B b => [0x0B, b]
  | .anc2B b => [0x2B, b]
  | .alrImm b => [0x4B, b]
  | .arrImm b => [0x6B, b]
  | .aneImm b => [0x8B, b]
  | .lxaImm b => [0xAB, b]
  | .sbxImm b => [0xCB, b]
  | .shaIzy b => [0x93, b]
  | .shaAby w => [0x9F, lowByte w, highByte w]
  | .shyAbx w => [0x9C, lowByte w, highByte w]
  | .shxAby w => [0x9E, lowByte w, highByte w]
  | .tasAby w => [0x9B, lowByte w, highByte w]
  | .lasAby w => [0xBB, lowByte w, highByte w]
  | .jam02 => [0x02]
  | .jam12 => [0x12]
  | .jam22 => [0x22]
  | .jam32 => [0x32]
  | .jam42 => [0x42]
  | .jam52 => [0x52]
  | .jam62 => [0x62]
  | .jam72 => [0x72]
  | .jam92 => [0x92]
  | .jamB2 => [0xB2]
  | .jamD2 => [0xD2]
  | .jamF2 => [0xF2]

/-- The opcode byte of an instruction. -/
def opcodeOf (i : Instr) : Byte := (encode i).headD 0x00

end Sys2Proof
end

