-- ==== Sys2Proof/Machine/State.lean ====
section
/-! DEFINITION. The architectural state of spec/10_state.md (R30 to R66), the ways a step can stop, and the state after power-on (R600, R604). Everything is plain data. -/

namespace Sys2Proof.Machine

/-- A memory: (address, value) pairs, addresses strictly rising and no zero value listed; an address that is not listed holds 0 (DESIGN CHOICE, unsafe, log 2). `Memory.wf` says the form holds. -/
abbrev Store (w : Nat) := List (Nat × BitVec w)

/-- A memory of bytes, as `Host.Cell` has them. -/
abbrev Mem := List Host.Cell

/-- The eight 1-bit flags of R33. -/
structure Flags where
  n : Bool
  v : Bool
  u : Bool
  b : Bool
  d : Bool
  i : Bool
  z : Bool
  c : Bool
  deriving DecidableEq, Repr

/-- One of the eight sprite slots of R61. -/
structure SpriteSlot where
  /-- Eight 4-bit pixels, the leftmost in bits 31:28. -/
  pattern : BitVec 32
  x : Byte
  /-- Attribute bit 5: behind the background. -/
  priority : Bool
  /-- The OAM number of the sprite, 0 to 63. -/
  index : BitVec 6
  deriving DecidableEq, Repr

/-- A slot at power-on (R61, R604): all 0. -/
def SpriteSlot.zero : SpriteSlot := ⟨0, 0, false, 0⟩

/-- The PPU's state, R50 to R62, but for its memories. -/
structure Ppu where
  /-- 0 to 340 (R50). -/
  cycle : Nat
  /-- 0 to 261 (R50). -/
  scanline : Nat
  frame : BitVec 64
  odd : Bool
  /-- The current loopy register (R51). -/
  v : BitVec 15
  /-- The temporary loopy register (R51). -/
  t : BitVec 15
  /-- Fine X (R52). -/
  x : BitVec 3
  /-- The write latch (R52). -/
  w : Bool
  ctrl : Byte
  mask : Byte
  vblank : Bool
  sprite0Hit : Bool
  overflow : Bool
  oamAddr : Byte
  /-- The I/O latch (R57). -/
  latch : Byte
  readBuffer : Byte
  nmiPrevious : Bool
  nmiDelay : Nat
  ntByte : Byte
  /-- The attribute palette selector times 4 (R60; DEDUCED, safe, log 12). -/
  atBits : BitVec 4
  ptLow : Byte
  ptHigh : Byte
  tileData : BitVec 64
  /-- 0 to 8 (R61). -/
  spriteCount : Nat
  slots : Vector SpriteSlot 8
  /-- The frame being drawn, the entry of row y and column x at y * 256 + x (R62). -/
  back : Store 6
  /-- The last completed frame (R62). -/
  front : Store 6
  deriving DecidableEq, Repr

/-- The nametable mirroring modes of R64 and R111. -/
inductive MirrorMode where
  | horizontal | vertical | singleLow | singleHigh | fourScreen
  deriving DecidableEq, Repr

/-- The concrete mappers of R560, R564 and R567. -/
inductive MapperKind where
  | nrom | uxrom | cnrom
  deriving DecidableEq, Repr

/-- The bank windows of R63 and R550, and the mapper's own registers (R569). -/
structure MapState where
  /-- PRG window size in bytes. -/
  prgW : Nat
  /-- CHR window size in bytes. -/
  chrW : Nat
  prgWin : List Nat
  chrWin : List Nat
  /-- The concrete mapper's own registers (R569); mappers 0, 2 and 3 have none. -/
  regs : List Nat
  deriving DecidableEq, Repr

/-- What the cartridge fixes beside its ROM bytes (R580, R582, R583, R584). -/
structure Cart where
  kind : MapperKind
  /-- PRG ROM size in bytes. -/
  prgSize : Nat
  /-- CHR size in bytes. -/
  chrSize : Nat
  /-- The CHR count of the header is 0: CHR is writable RAM (R46, R555). -/
  chrIsRam : Bool
  /-- The 16 header bytes as read (R583). -/
  header : List Byte
  /-- The trainer's 512 bytes, or none (R584). -/
  trainer : List Byte
  deriving DecidableEq, Repr

/-- The two controllers (R65). -/
structure Pads where
  buttons1 : Byte
  buttons2 : Byte
  strobe : Bool
  /-- 0 to 8. -/
  index1 : Nat
  /-- 0 to 8. -/
  index2 : Nat
  deriving DecidableEq, Repr

/-- The direction of a bus access (R401). -/
inductive Access where
  | read | write
  deriving DecidableEq, Repr

/-- The fault kinds and their info, R401; the value of the sticky record of R43. -/
inductive FaultRecord where
  /-- Code 1: the program counter and the opcode byte. -/
  | illegalOpcode (pc : Addr) (opcode : Byte)
  /-- Code 2: the address and the direction. -/
  | unmappedAddress (addr : Addr) (dir : Access)
  /-- Code 3, at load time only: the mapper id. -/
  | unsupportedMapper (id : Byte)
  /-- Code 4, at load time only: the byte offset of the first offending field. -/
  | malformedHeader (offset : Nat)
  deriving DecidableEq, Repr

/-- The whole machine. -/
structure State where
  a : Byte
  x : Byte
  y : Byte
  sp : Byte
  pc : Addr
  p : Flags
  cycles : BitVec 64
  /-- Pending DMA stall cycles (R40; DEDUCED, safe, log 11). -/
  stall : Nat
  nmiPending : Bool
  /-- The level of the external IRQ input at the next step start (R42; DESIGN CHOICE, unsafe over several steps, log 4). -/
  irq : Bool
  fault : Option FaultRecord
  ram : Mem
  prgRam : Mem
  prgRom : Mem
  chr : Mem
  oam : Mem
  palette : Mem
  vram : Mem
  ppu : Ppu
  map : MapState
  mirror : MirrorMode
  cart : Cart
  pads : Pads
  /-- The implementation parameters of R10, which nothing in the machine changes (DESIGN CHOICE, safe, log 3). -/
  cfg : Params
  deriving DecidableEq, Repr

/-- Why a step stops (R400, R401). A fault carries the faulted state: the record in `fault`, every effect that came before the faulting access, and no tick (DEDUCED, safe, log 5). -/
inductive Fault where
  /-- Raised by the fetch of an opcode with no executable row, and by the meaning of such an instruction (R161, R370, R381). Safe: the spec stops here too. -/
  | illegalOpcode (pc : Addr) (opcode : Byte) (left : State)
  /-- Raised by a CPU read or write of 0x4021 to 0x5FFF (R101, R102, R223). Safe: the spec stops here too. -/
  | unmappedAddress (addr : Addr) (dir : Access) (left : State)
  /-- Raised by a step from a state whose `fault` is set: R200 and R400 give such a state no step. Safe. -/
  | stopped (record : FaultRecord)
  deriving DecidableEq, Repr

/-- Why an instruction has no meaning. No instruction of this model is refused. -/
inductive Refusal where
  /-- An instruction the model gives no meaning; no arm of `exec` raises it now. Safe. -/
  | notModelled (mnemonic : String)
  deriving DecidableEq, Repr

/-- What one step, or one instruction's meaning, answers. -/
abbrev Outcome := Host.Outcome State Fault Refusal

/-- What a bus access answers: a value and the state after it, or the fault it raises (R14, R17). -/
inductive Res (α : Type) where
  | ok (v : α) (s : State)
  | fault (r : Fault)

/-- Go on with the value and the state of an access; a fault ends everything (R400). -/
def Res.andThen {α β : Type} (r : Res α) (f : α → State → Res β) : Res β :=
  match r with
  | .ok v s => f v s
  | .fault e => .fault e

/-- End an instruction with the value and the state of an access. -/
def Res.finish {α : Type} (r : Res α) (f : α → State → Outcome) : Outcome :=
  match r with
  | .ok v s => f v s
  | .fault e => .fault e

/-- The flags at power-on, R34 to R37: I and U set, P = 0x24. -/
def Flags.powerOn : Flags := ⟨false, false, true, false, false, true, false, false⟩

/-- The PPU at power-on, after `PpuReset` (R600, R603, R604). -/
def Ppu.powerOn : Ppu where
  cycle := 340
  scanline := 240
  frame := 0
  odd := false
  v := 0
  t := 0
  x := 0
  w := false
  ctrl := 0
  mask := 0
  vblank := false
  sprite0Hit := false
  overflow := false
  oamAddr := 0
  latch := 0
  readBuffer := 0
  nmiPrevious := false
  nmiDelay := 0
  ntByte := 0
  atBits := 0
  ptLow := 0
  ptHigh := 0
  tileData := 0
  spriteCount := 0
  slots := Vector.replicate 8 SpriteSlot.zero
  back := []
  front := []

/-- The blank cartridge (DESIGN CHOICE, unsafe, log 1): NROM, one 16 KB PRG bank, one 8 KB CHR ROM bank, horizontal mirroring. -/
def Cart.blank : Cart where
  kind := .nrom
  prgSize := 16384
  chrSize := 8192
  chrIsRam := false
  header := [0x4E, 0x45, 0x53, 0x1A, 0x01, 0x01, 0x00, 0x00, 0x00, 0x00, 0x00, 0x00, 0x00, 0x00, 0x00, 0x00]
  trainer := []

/-- The machine right after power-on (R600, R604) with the blank cartridge (log 1), `MEM_INIT` all zeros (log 2) and the default parameters (log 3). The reset vector of that cartridge reads 0x0000 (R601). -/
def State.reset : State where
  a := 0
  x := 0
  y := 0
  sp := 0xFD
  pc := 0x0000
  p := Flags.powerOn
  cycles := 7
  stall := 0
  nmiPending := false
  irq := false
  fault := none
  ram := []
  prgRam := []
  prgRom := []
  chr := []
  oam := []
  palette := []
  vram := []
  ppu := Ppu.powerOn
  map := ⟨16384, 8192, [0, 0], [0], []⟩
  mirror := .horizontal
  cart := Cart.blank
  pads := ⟨0, 0, false, 0, 0⟩
  cfg := Params.default

end Sys2Proof.Machine
end

