-- ==== Sys2Proof/Machine/Controllers.lean ====
section
/-! DEFINITION. The controllers (spec/62_mapper_devices.md R585, R586). -/

namespace Sys2Proof.Machine

/-- The bit a read shifts out (R585): the button at the index, 0 from the ninth read on. -/
def padBit (buttons : Byte) (index : Nat) : Byte :=
  (BitVec.ofBool (decide (index < 8) && buttons.getLsbD index)).setWidth 8

/-- The index after a read (R585). -/
def padNext (strobe : Bool) (index : Nat) : Nat := if strobe then 0 else min (index + 1) 8

/-- `ControllerRead(1)` (R585). -/
def readPad1 (s : State) : Byte × State :=
  (padBit s.pads.buttons1 s.pads.index1, { s with pads := { s.pads with index1 := padNext s.pads.strobe s.pads.index1 } })

/-- `ControllerRead(2)` (R585). -/
def readPad2 (s : State) : Byte × State :=
  (padBit s.pads.buttons2 s.pads.index2, { s with pads := { s.pads with index2 := padNext s.pads.strobe s.pads.index2 } })

/-- `ControllerStrobe(v)` (R586). -/
def strobePads (v : Byte) (s : State) : State :=
  let on := v.getLsbD 0
  { s with pads := { s.pads with
      strobe := on
      index1 := if on then 0 else s.pads.index1
      index2 := if on then 0 else s.pads.index2 } }

end Sys2Proof.Machine
end

