-- ==== Sys2Proof/Machine/Flags.lean ====
section
/-! DEFINITION. The flag computations: the status byte (spec/10_state.md R37), `SetZN` (spec/00_scope.md R16), the adder (spec/43_arithmetic_logic.md R270) and the comparator (R278). -/

namespace Sys2Proof.Machine

/-- The status byte P of R37: N V U B D I Z C from bit 7 down. -/
def Flags.toByte (p : Flags) : Byte :=
  BitVec.ofBool p.n ++ BitVec.ofBool p.v ++ BitVec.ofBool p.u ++ BitVec.ofBool p.b ++
    BitVec.ofBool p.d ++ BitVec.ofBool p.i ++ BitVec.ofBool p.z ++ BitVec.ofBool p.c

/-- Loading P from a byte (R37: PLP, RTI): B is forced to 0 and U to 1 whatever the byte holds. -/
def Flags.ofByte (b : Byte) : Flags where
  n := b.getLsbD 7
  v := b.getLsbD 6
  u := true
  b := false
  d := b.getLsbD 3
  i := b.getLsbD 2
  z := b.getLsbD 1
  c := b.getLsbD 0

/-- `SetZN(v)` of R16. -/
def Flags.setZN (p : Flags) (v : Byte) : Flags := { p with z := decide (v = 0), n := v.getLsbD 7 }

/-- The result, carry out and overflow of the adder (R270). -/
structure Sum where
  r : Byte
  cout : Bool
  vout : Bool
  deriving DecidableEq, Repr

/-- `AddCore(a, b, c)` of R270. -/
def addCore (a b : Byte) (c : Bool) : Sum :=
  let s := a.toNat + b.toNat + c.toNat
  let r := BitVec.ofNat 8 s
  { r := r, cout := decide (s > 255), vout := decide (((a ^^^ r) &&& (b ^^^ r) &&& 0x80#8) ≠ 0) }

/-- `Compare(r, m)` of R278: V is not written. -/
def Flags.compare (p : Flags) (r m : Byte) : Flags :=
  { p with c := decide (m.toNat ≤ r.toNat), z := decide (r = m), n := (r - m).getLsbD 7 }

/-- `A <- r; P.C <- c; P.V <- v; SetZN(A)` of R271, R272, R376 and R380, for the sum of A and a byte. -/
def addToA (m : Byte) (s : State) : State :=
  let t := addCore s.a m s.p.c
  { s with a := t.r, p := { s.p with c := t.cout, v := t.vout }.setZN t.r }

end Sys2Proof.Machine
end

