-- ==== Sys2Proof/Machine/Memory.lean ====
section
/-! DEFINITION. Reading and writing the memories of the machine (spec/10_state.md R44 to R49, R62), each a `Store`. -/

namespace Sys2Proof.Machine

/-- The value at an address; an address that is not listed holds 0 (DESIGN CHOICE, unsafe, log 2), and one at or above the memory's size too (log 13). -/
def Memory.read {w : Nat} : Store w → Nat → BitVec w
  | [], _ => 0
  | (k, v) :: m, a => if k = a then v else Memory.read m a

/-- List a value at its place in rising order, in the place of any value there. -/
def Memory.insert {w : Nat} : Store w → Nat → BitVec w → Store w
  | [], a, v => [(a, v)]
  | (k, x) :: m, a, v =>
    if a < k then (a, v) :: (k, x) :: m
    else if a = k then (a, v) :: m
    else (k, x) :: Memory.insert m a v

/-- Write one value, keeping the canonical form: writing 0, what an unlisted address holds, removes the entry. -/
def Memory.write {w : Nat} (m : Store w) (a : Nat) (v : BitVec w) : Store w :=
  if v = 0 then m.filter (fun c => c.1 ≠ a) else Memory.insert m a v

/-- The canonical form: addresses strictly rising, no entry equal to what an unlisted address holds. -/
def Memory.wf {w : Nat} : Store w → Bool
  | [] => true
  | (k, v) :: m => decide (v ≠ 0) && m.all (fun c => decide (k < c.1)) && Memory.wf m

/-- Every listed address lies below a bound: the memory's size. -/
def Memory.below {w : Nat} (n : Nat) (m : Store w) : Bool := m.all (fun c => decide (c.1 < n))

/-- The memory that holds the given bytes from an address on. -/
def Memory.ofBytes : Nat → List Byte → Mem
  | _, [] => []
  | a, b :: bs => if b = 0 then Memory.ofBytes (a + 1) bs else (a, b) :: Memory.ofBytes (a + 1) bs

/-- The first `n` bytes of a memory. -/
def Memory.toBytes (n : Nat) (m : Mem) : List Byte := (List.range n).map (fun a => Memory.read m a)

end Sys2Proof.Machine
end

