-- ==== Sys2Proof/Machine/Mapper.lean ====
section
/-! DEFINITION. The mapper abstraction and the concrete mappers 0, 2 and 3 (spec/62_mapper_devices.md R550 to R570). -/

namespace Sys2Proof.Machine

/-- What a hook of a concrete mapper may ask for (R551, R553, R559, R569). It names no item of the PPU: a mapper acts through these only (R558). -/
inductive HookAct where
  /-- `set_window(i, b)` for PRG. -/
  | setPrg (i : Nat) (b : Int)
  /-- `set_window(i, b)` for CHR. -/
  | setChr (i : Nat) (b : Int)
  /-- `SetMirror(mode)`. -/
  | setMirror (m : MirrorMode)
  /-- Own register `k` takes a value. -/
  | setReg (k v : Nat)
  deriving DecidableEq, Repr

/-- A read hook (R552, R569): the addresses it covers, whether it replaces the default read or observes it, and, from the mapper's own registers and the address, the value it supplies and what it does. -/
structure ReadHook where
  lo : Nat
  hi : Nat
  replaces : Bool
  value : List Nat → Nat → Byte
  acts : List Nat → Nat → List HookAct

/-- A write hook (R553, R569): the addresses it covers, whether it replaces the default write or observes it, and what it does, from the mapper's own registers, the address and the byte. -/
structure WriteHook where
  lo : Nat
  hi : Nat
  replaces : Bool
  acts : List Nat → Nat → Byte → List HookAct

/-- The full description of a concrete mapper (R569): window sizes, initial windows as `set_window` bank indices, its own registers' reset values, its hooks in registration order, and the optional timing and IRQ hooks of R558 (log 10). It is no part of the state. -/
structure MapperDesc where
  prgW : Nat
  chrW : Nat
  initPrg : List Int
  initChr : List Int
  initRegs : List Nat := []
  readHooks : List ReadHook := []
  writeHooks : List WriteHook := []
  /-- What it does when it sees an address on the PPU bus. -/
  onPpuAccess : List Nat → Nat → List HookAct := fun _ _ => []
  /-- What it does when it sees a number of CPU cycles pass. -/
  onCpuCycles : List Nat → Nat → List HookAct := fun _ _ => []
  /-- The level it drives the IRQ input with. -/
  irqLevel : List Nat → Bool := fun _ => false

/-- Mapper 0 of R560, mapper 2 of R564, mapper 3 of R567. None has a read hook, own registers, or a timing or IRQ hook (R552, R558). -/
def mapperDesc : MapperKind → MapperDesc
  | .nrom => { prgW := 16384, chrW := 8192, initPrg := [0, -1], initChr := [0] }
  | .uxrom =>
    { prgW := 16384, chrW := 8192, initPrg := [0, -1], initChr := [0]
      writeHooks := [⟨0x8000, 0xFFFF, true, fun _ _ v => [.setPrg 0 v.toNat]⟩] }
  | .cnrom =>
    { prgW := 16384, chrW := 8192, initPrg := [0, -1], initChr := [0]
      writeHooks := [⟨0x8000, 0xFFFF, true, fun _ _ v => [.setChr 0 v.toNat]⟩] }

/-- The mapper an id of the header names, if it is one of this model's (R556). -/
def mapperOfId (id : Byte) : Option MapperKind :=
  if id = 0 then some .nrom else if id = 2 then some .uxrom else if id = 3 then some .cnrom else none

/-- `b mod n`, the Euclidean remainder of R551: -1 names the last bank. -/
def bankIndex (b : Int) (n : Nat) : Nat := (b % (n : Int)).toNat

/-- The initial windows and own registers of a concrete mapper for the given ROM sizes (R550, R560, R564, R567, R569). -/
def initialMap (k : MapperKind) (prgSize chrSize : Nat) : MapState :=
  let d := mapperDesc k
  { prgW := d.prgW
    chrW := d.chrW
    prgWin := d.initPrg.map (fun b => bankIndex b (prgSize / d.prgW))
    chrWin := d.initChr.map (fun b => bankIndex b (chrSize / d.chrW))
    regs := d.initRegs }

/-- `prg_n`, the PRG bank count (R550). -/
def prgBanks (s : State) : Nat := s.cart.prgSize / s.map.prgW

/-- `chr_n`, the CHR bank count (R550). -/
def chrBanks (s : State) : Nat := s.cart.chrSize / s.map.chrW

/-- `set_window(i, b)` for PRG (R551). -/
def setPrgWindow (i : Nat) (b : Int) (s : State) : State :=
  { s with map := { s.map with prgWin := s.map.prgWin.set i (bankIndex b (prgBanks s)) } }

/-- `set_window(i, b)` for CHR (R551). -/
def setChrWindow (i : Nat) (b : Int) (s : State) : State :=
  { s with map := { s.map with chrWin := s.map.chrWin.set i (bankIndex b (chrBanks s)) } }

/-- `SetMirror(mode)` (R559): the mode only, no byte of the nametables. -/
def setMirror (m : MirrorMode) (s : State) : State := { s with mirror := m }

/-- Where a CPU address of 0x8000 to 0xFFFF lies in PRG ROM (R552). A window the table does not have reads as bank 0 (DESIGN CHOICE, unsafe in states no run reaches, log 13). -/
def prgOffset (n : Nat) (s : State) : Nat :=
  s.map.prgWin.getD ((n - 0x8000) / s.map.prgW) 0 * s.map.prgW + (n - 0x8000) % s.map.prgW

/-- Where a PPU address of 0x0000 to 0x1FFF lies in CHR (R554). A window the table does not have reads as bank 0 (log 13). -/
def chrOffset (n : Nat) (s : State) : Nat :=
  s.map.chrWin.getD (n / s.map.chrW) 0 * s.map.chrW + n % s.map.chrW

/-- What one request of a hook does. -/
def runAct (a : HookAct) (s : State) : State :=
  match a with
  | .setPrg i b => setPrgWindow i b s
  | .setChr i b => setChrWindow i b s
  | .setMirror m => setMirror m s
  | .setReg k v => { s with map := { s.map with regs := s.map.regs.set k v } }

/-- What the requests of a hook do, in order. -/
def runActs (acts : List HookAct) (s : State) : State := acts.foldl (fun s a => runAct a s) s

/-- A read hook covers an address. -/
def ReadHook.covers (h : ReadHook) (n : Nat) : Bool := decide (h.lo ≤ n) && decide (n ≤ h.hi)

/-- A write hook covers an address. -/
def WriteHook.covers (h : WriteHook) (n : Nat) : Bool := decide (h.lo ≤ n) && decide (n ≤ h.hi)

/-- The default CPU read (R552). -/
def defaultCpuRead (n : Nat) (s : State) : Byte :=
  if n ≤ 0x7FFF then Memory.read s.prgRam (n - 0x6000) else Memory.read s.prgRom (prgOffset n s)

/-- The value of `MapperCpuRead` of R552, for addresses 0x6000 to 0xFFFF: that of a covering read hook that replaces the default, the first in registration order if there are several (DESIGN CHOICE, safe, log 10), else the default. -/
def mapperCpuRead (n : Nat) (s : State) : Byte :=
  match (mapperDesc s.cart.kind).readHooks.find? (fun h => h.covers n && h.replaces) with
  | some h => h.value s.map.regs n
  | none => defaultCpuRead n s

/-- What `MapperCpuRead` leaves (R552, R569): the covering read hooks act, in registration order. -/
def mapperReadEffect (n : Nat) (s : State) : State :=
  ((mapperDesc s.cart.kind).readHooks.filter (fun h => h.covers n)).foldl
    (fun s h => runActs (h.acts s.map.regs n) s) s

/-- The default CPU write (R553, R557): PRG-RAM takes the byte, PRG ROM ignores it. -/
def defaultCpuWrite (n : Nat) (v : Byte) (s : State) : State :=
  if n ≤ 0x7FFF then { s with prgRam := Memory.write s.prgRam (n - 0x6000) v } else s

/-- `MapperCpuWrite` of R553, for addresses 0x6000 to 0xFFFF: the covering hooks in registration order, then the default unless a hook replaces it. -/
def mapperCpuWrite (n : Nat) (v : Byte) (s : State) : State :=
  let hooks := (mapperDesc s.cart.kind).writeHooks.filter (fun h => h.covers n)
  let s1 := hooks.foldl (fun s h => runActs (h.acts s.map.regs n v) s) s
  if hooks.any (fun h => h.replaces) then s1 else defaultCpuWrite n v s1

/-- The mapper sees an address on the PPU bus (R558), after the access (DESIGN CHOICE, safe, log 10). -/
def observePpu (addr : Addr) (s : State) : State :=
  runActs ((mapperDesc s.cart.kind).onPpuAccess s.map.regs (addr.toNat % 0x4000)) s

/-- The mapper sees `n` CPU cycles pass (R558), after their ticks (DESIGN CHOICE, safe, log 10). -/
def observeCpu (n : Nat) (s : State) : State := runActs ((mapperDesc s.cart.kind).onCpuCycles s.map.regs n) s

/-- The level of the IRQ input (R42, R558): the external level, or that of the mapper (DESIGN CHOICE, safe, log 10). -/
def irqInput (s : State) : Bool := s.irq || (mapperDesc s.cart.kind).irqLevel s.map.regs

/-- `MapperPpuRead` of R554, for addresses 0x0000 to 0x1FFF. -/
def mapperPpuRead (n : Nat) (s : State) : Byte := Memory.read s.chr (chrOffset n s)

/-- `MapperPpuWrite` of R555: CHR-RAM takes the byte, CHR ROM ignores it (R557). -/
def mapperPpuWrite (n : Nat) (v : Byte) (s : State) : State :=
  if s.cart.chrIsRam then { s with chr := Memory.write s.chr (chrOffset n s) v } else s

end Sys2Proof.Machine
end

