-- ==== Sys2Proof/Machine/PpuBus.lean ====
section
/-! DEFINITION. The PPU address router (spec/20_memory.md R110 to R115). It is total and raises no fault. -/

namespace Sys2Proof.Machine

/-- The mirror table of R111: the physical slot of a logical slot. -/
def mirrorSlot (m : MirrorMode) (slot : Nat) : Nat :=
  match m with
  | .horizontal => [0, 0, 1, 1].getD slot 0
  | .vertical => [0, 1, 0, 1].getD slot 0
  | .singleLow => [0, 0, 0, 0].getD slot 0
  | .singleHigh => [1, 1, 1, 1].getD slot 0
  | .fourScreen => [0, 1, 2, 3].getD slot 0

/-- `NtIndex` of R111, for PPU addresses 0x2000 to 0x3EFF. -/
def ntIndex (m : MirrorMode) (n : Nat) : Nat :=
  let o := (n - 0x2000) % 0x1000
  mirrorSlot m (o / 0x400) * 0x400 + o % 0x400

/-- `PalIndex` of R112, for PPU addresses 0x3F00 to 0x3FFF. -/
def palIndex (n : Nat) : Nat :=
  let i := n % 32
  if i ≥ 16 ∧ i % 4 = 0 then i - 16 else i

/-- `PpuRead` of R110. -/
def ppuRead (addr : Addr) (s : State) : Byte :=
  let n := addr.toNat % 0x4000
  if n < 0x2000 then mapperPpuRead n s
  else if n < 0x3F00 then Memory.read s.vram (ntIndex s.mirror n)
  else Memory.read s.palette (palIndex n)

/-- `PpuWrite` of R110. -/
def ppuWrite (addr : Addr) (v : Byte) (s : State) : State :=
  let n := addr.toNat % 0x4000
  if n < 0x2000 then mapperPpuWrite n v s
  else if n < 0x3F00 then { s with vram := Memory.write s.vram (ntIndex s.mirror n) v }
  else { s with palette := Memory.write s.palette (palIndex n) v }

end Sys2Proof.Machine
end

