-- ==== Sys2Proof/Machine/PpuRegs.lean ====
section
/-! DEFINITION. The PPU's CPU-visible registers (spec/61_ppu.md R450 to R468) and the NMI condition (R504). -/

namespace Sys2Proof.Machine

/-- `NmiChange()` of R504: a rising edge of `ctrl[7] & vblank` schedules an NMI request. -/
def nmiChange (s : State) : State :=
  let nmi := s.ppu.ctrl.getLsbD 7 && s.ppu.vblank
  { s with ppu := { s.ppu with
      nmiDelay := if nmi && !s.ppu.nmiPrevious then s.cfg.nmiDelayTicks else s.ppu.nmiDelay
      nmiPrevious := nmi } }

/-- `IncrementV()` of R456. -/
def incrementV (s : State) : State :=
  { s with ppu := { s.ppu with v := s.ppu.v + (if s.ppu.ctrl.getLsbD 2 then 32#15 else 1#15) } }

/-- What a PPUSTATUS read returns (R452): the flags in bits 7 to 5, the I/O latch below. -/
def statusByte (p : Ppu) : Byte :=
  (p.latch &&& 0x1F#8) ||| ((BitVec.ofBool p.overflow).setWidth 8 <<< 5) |||
    ((BitVec.ofBool p.sprite0Hit).setWidth 8 <<< 6) ||| ((BitVec.ofBool p.vblank).setWidth 8 <<< 7)

/-- PPUSTATUS read (R452): it clears the vblank flag and the write latch. -/
def readStatus (s : State) : Byte × State :=
  let s1 := nmiChange { s with ppu := { s.ppu with vblank := false } }
  (statusByte s.ppu, { s1 with ppu := { s1.ppu with w := false } })

/-- OAMDATA read (R454): no increment. -/
def readOamData (s : State) : Byte × State := (Memory.read s.oam s.ppu.oamAddr.toNat, s)

/-- The PPU bus accesses of a PPUDATA read that the mapper may observe (R455, R558): at v, and for the palette at the nametable byte below it too. `readPpuData` makes both reads before the mapper observes either (DESIGN CHOICE, safe, log 10). -/
def observeRead (s : State) : State :=
  let s1 := observePpu (s.ppu.v.setWidth 16) s
  if s.ppu.v.toNat % 0x4000 < 0x3F00 then s1 else observePpu ((s.ppu.v - 0x1000#15).setWidth 16) s1

/-- PPUDATA read (R455): delayed by one read below 0x3F00, at once for the palette. -/
def readPpuData (s : State) : Byte × State :=
  let a := s.ppu.v.toNat % 0x4000
  let value := ppuRead (BitVec.ofNat 16 a) s
  let under := ppuRead ((s.ppu.v - 0x1000#15).setWidth 16) s
  (if a < 0x3F00 then s.ppu.readBuffer else value,
    incrementV (observeRead { s with ppu := { s.ppu with readBuffer := if a < 0x3F00 then value else under } }))

/-- `PpuRegRead` of R451, `r` from 0 to 7; a write-only register answers the I/O latch (R457). -/
def ppuRegRead (r : Nat) (s : State) : Byte × State :=
  match r with
  | 2 => readStatus s
  | 4 => readOamData s
  | 7 => readPpuData s
  | _ => (s.ppu.latch, s)

/-- PPUCTRL write (R460). -/
def writeCtrl (d : Byte) (s : State) : State :=
  nmiChange { s with ppu := { s.ppu with
    ctrl := d
    t := (s.ppu.t &&& 0x73FF#15) ||| ((d &&& 0x03#8).setWidth 15 <<< 10) } }

/-- PPUMASK write (R461). -/
def writeMask (d : Byte) (s : State) : State := { s with ppu := { s.ppu with mask := d } }

/-- OAMADDR write (R462). -/
def writeOamAddr (d : Byte) (s : State) : State := { s with ppu := { s.ppu with oamAddr := d } }

/-- OAMDATA write (R463), and each byte of an OAM DMA (R473). -/
def writeOamData (d : Byte) (s : State) : State :=
  { s with oam := Memory.write s.oam s.ppu.oamAddr.toNat d, ppu := { s.ppu with oamAddr := s.ppu.oamAddr + 1 } }

/-- PPUSCROLL write (R464): X on the first write, Y on the second. -/
def writeScroll (d : Byte) (s : State) : State :=
  if s.ppu.w then
    { s with ppu := { s.ppu with
        t := (s.ppu.t &&& 0x0C1F#15) ||| ((d &&& 0x07#8).setWidth 15 <<< 12) ||| ((d &&& 0xF8#8).setWidth 15 <<< 2)
        w := false } }
  else
    { s with ppu := { s.ppu with
        t := (s.ppu.t &&& 0x7FE0#15) ||| (d >>> 3).setWidth 15
        x := d.setWidth 3
        w := true } }

/-- PPUADDR write (R465): high byte, then low byte and the copy to v. -/
def writePpuAddr (d : Byte) (s : State) : State :=
  if s.ppu.w then
    let t := (s.ppu.t &&& 0x7F00#15) ||| d.setWidth 15
    { s with ppu := { s.ppu with t := t, v := t, w := false } }
  else
    { s with ppu := { s.ppu with t := (s.ppu.t &&& 0x00FF#15) ||| ((d &&& 0x3F#8).setWidth 15 <<< 8), w := true } }

/-- PPUDATA write (R466). -/
def writePpuData (d : Byte) (s : State) : State :=
  let addr := BitVec.ofNat 16 (s.ppu.v.toNat % 0x4000)
  incrementV (observePpu addr (ppuWrite addr d s))

/-- `PpuRegWrite` of R451, `r` from 0 to 7: the I/O latch takes the byte (R458), then the register's own effect; PPUSTATUS has none (R467). -/
def ppuRegWrite (r : Nat) (d : Byte) (s : State) : State :=
  let s1 := { s with ppu := { s.ppu with latch := d } }
  match r with
  | 0 => writeCtrl d s1
  | 1 => writeMask d s1
  | 3 => writeOamAddr d s1
  | 4 => writeOamData d s1
  | 5 => writeScroll d s1
  | 6 => writePpuAddr d s1
  | 7 => writePpuData d s1
  | _ => s1

end Sys2Proof.Machine
end

