-- ==== Sys2Proof/Machine/Ops.lean ====
section
/-! DEFINITION. The named operations over memory and registers: the CPU bus (spec/20_memory.md R101, R102), OAM DMA (spec/61_ppu.md R473), 16-bit reads, the stack (spec/00_scope.md R14, R15), faults (spec/60_exceptions.md R400), and taking and returning from an interrupt (R413, R414, spec/45_control.md R332, R333). -/

namespace Sys2Proof.Machine

/-- `raise Fault(IllegalOpcode, (PC, opcode))` of R161 and R400: the state with its sticky record. -/
def raiseIllegal (op : Byte) (s : State) : Fault :=
  .illegalOpcode s.pc op { s with fault := some (.illegalOpcode s.pc op) }

/-- `raise Fault(UnmappedAddress, (addr, dir))` of R101, R102 and R400. -/
def raiseUnmapped (addr : Addr) (dir : Access) (s : State) : Fault :=
  .unmappedAddress addr dir { s with fault := some (.unmappedAddress addr dir) }

/-- `MemRead(addr, 1)`: the CPU read router of R101, first matching row. -/
def busRead (addr : Addr) (s : State) : Res Byte :=
  let n := addr.toNat
  if n < 0x2000 then .ok (Memory.read s.ram (n % 0x800)) s
  else if n < 0x4000 then .ok (ppuRegRead (n % 8) s).1 (ppuRegRead (n % 8) s).2
  else if n = 0x4014 then .ok s.cfg.openBus s
  else if n = 0x4016 then .ok (readPad1 s).1 (readPad1 s).2
  else if n = 0x4017 then .ok (readPad2 s).1 (readPad2 s).2
  else if n ≤ 0x4020 then .ok s.cfg.openBus s
  else if n ≤ 0x5FFF then .fault (raiseUnmapped addr .read s)
  else .ok (mapperCpuRead n s) (mapperReadEffect n s)

/-- The copy loop of an OAM DMA (R473): `k` bytes left, the next from source byte `i` of the page. -/
def oamCopy (page : Byte) : Nat → Nat → State → Res Unit
  | 0, _, s => .ok () s
  | k + 1, i, s =>
    (busRead (word16 page (BitVec.ofNat 8 i)) s).andThen fun v s1 => oamCopy page k (i + 1) (writeOamData v s1)

/-- `OamDma(d)` of R473: 256 bytes at once, then a stall of 513 cycles, 514 if the cycle count is odd. -/
def oamDma (d : Byte) (s : State) : Res Unit :=
  (oamCopy d 256 0 s).andThen fun _ s1 => .ok () { s1 with stall := s1.stall + 513 + s1.cycles.toNat % 2 }

/-- `MemWrite(addr, 1, v)`: the CPU write router of R102, first matching row. -/
def busWrite (addr : Addr) (v : Byte) (s : State) : Res Unit :=
  let n := addr.toNat
  if n < 0x2000 then .ok () { s with ram := Memory.write s.ram (n % 0x800) v }
  else if n < 0x4000 then .ok () (ppuRegWrite (n % 8) v s)
  else if n = 0x4014 then oamDma v s
  else if n = 0x4016 then .ok () (strobePads v s)
  else if n ≤ 0x4020 then .ok () s
  else if n ≤ 0x5FFF then .fault (raiseUnmapped addr .write s)
  else .ok () (mapperCpuWrite n v s)

/-- Two byte reads that make a 16-bit value, the low byte first (R14, R107). -/
def readPair (lo hi : Addr) (s : State) : Res Addr :=
  (busRead lo s).andThen fun l s1 => (busRead hi s1).andThen fun h s2 => .ok (word16 h l) s2

/-- `Read16(addr)` of R14. -/
def read16 (addr : Addr) (s : State) : Res Addr := readPair addr (addr + 1) s

/-- A zero-page address as a CPU address (R153, R211). -/
def zeroPage (b : Byte) : Addr := word16 0x00 b

/-- `Read16ZP(p)` of R206: the second byte wraps within the zero page. -/
def read16ZP (p : Byte) (s : State) : Res Addr := readPair (zeroPage p) (zeroPage (p + 1)) s

/-- `Read16Bug(p)` of R207: the second byte wraps within the page of the first. -/
def read16Bug (p : Addr) (s : State) : Res Addr := readPair p (word16 (highByte p) (lowByte p + 1)) s

/-- The stack slot SP names: `0x0100 | SP` (R15, R31). -/
def stackSlot (sp : Byte) : Addr := word16 0x01 sp

/-- `Push(v)` of R15. -/
def push (v : Byte) (s : State) : Res Unit :=
  (busWrite (stackSlot s.sp) v s).andThen fun _ s1 => .ok () { s1 with sp := s1.sp - 1 }

/-- `Pull()` of R15. -/
def pull (s : State) : Res Byte := busRead (stackSlot (s.sp + 1)) { s with sp := s.sp + 1 }

/-- `Push16(w)` of R15: the high byte first. -/
def push16 (w : Addr) (s : State) : Res Unit :=
  (push (highByte w) s).andThen fun _ s1 => push (lowByte w) s1

/-- `Pull16()` of R15. -/
def pull16 (s : State) : Res Addr :=
  (pull s).andThen fun lo s1 => (pull s1).andThen fun hi s2 => .ok (word16 hi lo) s2

/-- The status byte BRK and PHP push (R261, R333): bits 4 and 5 set. -/
def breakStatus (p : Flags) : Byte := p.toByte ||| 0x30#8

/-- The status byte NMI and IRQ entry push (R413, R414): bit 5 set, bit 4 = `INT_PUSH_B`. -/
def interruptStatus (s : State) : Byte :=
  (s.p.toByte &&& 0xEF#8) ||| 0x20#8 ||| ((BitVec.ofBool s.cfg.intPushB).setWidth 8 <<< 4)

/-- Taking an interrupt, shared by NMI, IRQ and BRK (R410, R413, R414, R333): push the return address and the status byte, set I, and go through the vector. -/
def takeInterrupt (ret : Addr) (status : Byte) (vector : Addr) (s : State) : Res Unit :=
  (push16 ret s).andThen fun _ s1 =>
  (push status s1).andThen fun _ s2 =>
  (read16 vector { s2 with p := { s2.p with i := true } }).andThen fun target s3 => .ok () { s3 with pc := target }

/-- The NMI vector of R410. -/
def nmiVector : Addr := 0xFFFA

/-- The reset vector of R410 and R601. -/
def resetVector : Addr := 0xFFFC

/-- The vector of IRQ and BRK (R410). -/
def irqVector : Addr := 0xFFFE

/-- Charge CPU cycles (R39). -/
def charge (n : Nat) (s : State) : State := { s with cycles := s.cycles + BitVec.ofNat 64 n }

/-- `NmiEntry()` of R413. -/
def nmiEntry (s : State) : Res Unit :=
  (takeInterrupt s.pc (interruptStatus s) nmiVector { s with nmiPending := false }).andThen
    fun _ s1 => .ok () (charge 7 s1)

/-- `IrqEntry()` of R414. -/
def irqEntry (s : State) : Res Unit :=
  (takeInterrupt s.pc (interruptStatus s) irqVector s).andThen fun _ s1 => .ok () (charge 7 s1)

/-- The return from an interrupt (R332, R417): pull P, with B and U forced (R37), then PC. -/
def returnFromInterrupt (s : State) : Res Unit :=
  (pull s).andThen fun b s1 =>
  (pull16 { s1 with p := Flags.ofByte b }).andThen fun target s2 => .ok () { s2 with pc := target }

end Sys2Proof.Machine
end

