-- ==== Sys2Proof/Machine/Operands.lean ====
section
/-! DEFINITION. The operand forms of the addressing modes (spec/40_step_addressing.md R205 to R221), the program counter advance and cycle charge of R201 to R204, and the shapes of instruction that R221 lists. Each shape starts where R201 resolves the operand: the opcode and the operand bytes are already fetched. -/

namespace Sys2Proof.Machine

/-- `PageDiffers(a, b)` of R18. -/
def pageDiffers (a b : Addr) : Bool := decide (highByte a ≠ highByte b)

/-- A memory operand: its mode and its field (R211 to R216, R218, R219). -/
inductive MemOp where
  | zp (b : Byte)
  | zpx (b : Byte)
  | zpy (b : Byte)
  | abs (w : Addr)
  | abx (w : Addr)
  | aby (w : Addr)
  | izx (b : Byte)
  | izy (b : Byte)
  deriving DecidableEq, Repr

/-- The operand of a read instruction: immediate (R210) or memory. -/
inductive ReadOp where
  | imm (b : Byte)
  | mem (m : MemOp)
  deriving DecidableEq, Repr

/-- The operand of a shift or rotate: the accumulator (R209) or memory. -/
inductive ShiftOp where
  | acc
  | mem (m : MemOp)
  deriving DecidableEq, Repr

/-- The length of an instruction with this operand (R152). -/
def MemOp.length : MemOp → Nat
  | .zp _ | .zpx _ | .zpy _ | .izx _ | .izy _ => 2
  | .abs _ | .abx _ | .aby _ => 3

/-- An effective address and whether a page was crossed: `(ea, crossed)` of R208 to R219. -/
structure Ea where
  addr : Addr
  crossed : Bool
  deriving DecidableEq, Repr

/-- `ZpIndex(b, r)` of R205, as a CPU address. -/
def zpIndex (b r : Byte) : Addr := zeroPage (b + r)

/-- Absolute indexing (R215, R216, R219): mod 2^16, and `crossed` when the page changes. -/
def indexed (base : Addr) (r : Byte) : Ea :=
  let ea := base + r.setWidth 16
  ⟨ea, pageDiffers base ea⟩

/-- `Resolve(mode, b1, b2)` of R211 to R219. -/
def resolve (m : MemOp) (s : State) : Res Ea :=
  match m with
  | .zp b => .ok ⟨zeroPage b, false⟩ s
  | .zpx b => .ok ⟨zpIndex b s.x, false⟩ s
  | .zpy b => .ok ⟨zpIndex b s.y, false⟩ s
  | .abs w => .ok ⟨w, false⟩ s
  | .abx w => .ok (indexed w s.x) s
  | .aby w => .ok (indexed w s.y) s
  | .izx b => (read16ZP (b + s.x) s).andThen fun ea s1 => .ok ⟨ea, false⟩ s1
  | .izy b => (read16ZP b s).andThen fun base s1 => .ok (indexed base s1.y) s1

/-- The program counter advance and the cycle charge of R201. -/
def advance (len cyc : Nat) (s : State) : State :=
  { s with pc := s.pc + BitVec.ofNat 16 len, cycles := s.cycles + BitVec.ofNat 64 cyc }

/-- An instruction without an operand (R208): `perform` is its effect. -/
def impliedInstr (base : Nat) (perform : State → State) (s : State) : Outcome := .next (perform (advance 1 base s))

/-- A read instruction (R221): `perform` gets the operand value M. A crossed page costs one more cycle (R203). -/
def readInstr (base : Nat) (o : ReadOp) (perform : Byte → State → State) (s : State) : Outcome :=
  match o with
  | .imm b => .next (perform b (advance 2 base s))
  | .mem m =>
    (resolve m s).finish fun ea s1 =>
    (busRead ea.addr (advance m.length (base + ea.crossed.toNat) s1)).finish fun v s2 => .next (perform v s2)

/-- A write instruction (R221): one write of the value, no read, no page penalty. -/
def storeInstr (base : Nat) (m : MemOp) (value : State → Byte) (s : State) : Outcome :=
  (resolve m s).finish fun ea s1 =>
  let s2 := advance m.length base s1
  (busWrite ea.addr (value s2) s2).finish fun _ s3 => .next s3

/-- What a read-modify-write does to the operand value M: the result, and the carry it leaves before the result is stored. -/
structure Modified where
  r : Byte
  c : Bool
  deriving DecidableEq, Repr

/-- A read-modify-write instruction in a memory mode (R221): one read, then one write of the result, then what follows it. The carry is written before the store, as R306 to R309 and R377 to R380 order it. -/
def rmwInstr (base : Nat) (m : MemOp) (modify : Byte → Bool → Modified) (after : Byte → State → State) (s : State) :
    Outcome :=
  (resolve m s).finish fun ea s1 =>
  (busRead ea.addr (advance m.length base s1)).finish fun v s2 =>
  let t := modify v s2.p.c
  (busWrite ea.addr t.r { s2 with p := { s2.p with c := t.c } }).finish fun _ s3 => .next (after t.r s3)

/-- A conditional branch (R204, R220, R320): two cycles, one more if taken, one more again if the target lies in another page than the next instruction. -/
def branchInstr (cond : Flags → Bool) (off : Byte) (s : State) : Outcome :=
  let s1 := advance 2 2 s
  let target := s.pc + 2 + off.signExtend 16
  if cond s1.p then .next { charge (1 + (pageDiffers s1.pc target).toNat) s1 with pc := target } else .next s1

/-- An instruction of R381: it always raises `IllegalOpcode`. -/
def illegalInstr (op : Byte) (s : State) : Outcome := .fault (raiseIllegal op s)

/-- The gate of R370: an unofficial opcode has its effect under `nestest` and raises `IllegalOpcode` otherwise. -/
def gated (op : Byte) (effect : State → Outcome) (s : State) : Outcome :=
  match s.cfg.unofficial with
  | .nestest => effect s
  | .fault => illegalInstr op s

end Sys2Proof.Machine
end

