-- ==== Sys2Proof/Machine/Control.lean ====
section
/-! DEFINITION. The meanings of the control transfers of spec/45_control.md (R320 to R334): one definition per opcode byte over one shared definition per mnemonic. A meaning starts where the operand bytes are fetched (spec/40_step_addressing.md R201); its number is the base cycle count of spec/30_encoding.md R157. -/

namespace Sys2Proof.Machine

/-- 10: BPL rel (2), R321. -/
def execBpl (b : Byte) (s : State) : Outcome := branchInstr (fun p => !p.n) b s

/-- 30: BMI rel (2), R322. -/
def execBmi (b : Byte) (s : State) : Outcome := branchInstr (fun p => p.n) b s

/-- 50: BVC rel (2), R323. -/
def execBvc (b : Byte) (s : State) : Outcome := branchInstr (fun p => !p.v) b s

/-- 70: BVS rel (2), R324. -/
def execBvs (b : Byte) (s : State) : Outcome := branchInstr (fun p => p.v) b s

/-- 90: BCC rel (2), R325. -/
def execBcc (b : Byte) (s : State) : Outcome := branchInstr (fun p => !p.c) b s

/-- B0: BCS rel (2), R326. -/
def execBcs (b : Byte) (s : State) : Outcome := branchInstr (fun p => p.c) b s

/-- D0: BNE rel (2), R327. -/
def execBne (b : Byte) (s : State) : Outcome := branchInstr (fun p => !p.z) b s

/-- F0: BEQ rel (2), R328. -/
def execBeq (b : Byte) (s : State) : Outcome := branchInstr (fun p => p.z) b s

/-- 4C: JMP abs (3), R329: `PC <- ea`. -/
def execJmpAbs (w : Addr) (s : State) : Outcome := .next { advance 3 3 s with pc := w }

/-- 6C: JMP ind (5), R217, R329: `PC <- Read16Bug(ptr)`, the pointer read before the PC advance (R201). -/
def execJmpInd (w : Addr) (s : State) : Outcome :=
  (read16Bug w s).finish fun ea t => .next { advance 3 5 t with pc := ea }

/-- 20: JSR abs (6), R330: push the address of its last byte, then `PC <- ea`. -/
def execJsrAbs (w : Addr) (s : State) : Outcome :=
  let s1 := advance 3 6 s
  (push16 (s1.pc - 1) s1).finish fun _ t => .next { t with pc := w }

/-- 60: RTS impl (6), R331: `PC <- Pull16() + 1`. -/
def execRts (s : State) : Outcome := (pull16 (advance 1 6 s)).finish fun w t => .next { t with pc := w + 1 }

/-- 40: RTI impl (6), R332: the return from an interrupt. -/
def execRti (s : State) : Outcome := (returnFromInterrupt (advance 1 6 s)).finish fun _ t => .next t

/-- 00: BRK impl (7), R333: the interrupt entry through 0xFFFE with BRK + 2 and `P | 0x30` pushed. -/
def execBrk (s : State) : Outcome :=
  let s1 := advance 1 7 s
  (takeInterrupt (s1.pc + 1) (breakStatus s1.p) irqVector s1).finish fun _ t => .next t

end Sys2Proof.Machine
end

