-- ==== Sys2Proof/Machine/FlagOps.lean ====
section
/-! DEFINITION. The meanings of the flag instructions and NOP of spec/46_flags_nop.md (R350 to R357): one definition per opcode byte over one shared definition per mnemonic. A meaning starts where the operand bytes are fetched (spec/40_step_addressing.md R201); its number is the base cycle count of spec/30_encoding.md R157. -/

namespace Sys2Proof.Machine

/-- 18: CLC impl (2), R350: `P.C <- 0`. -/
def execClc (s : State) : Outcome := impliedInstr 2 (fun t => { t with p := { t.p with c := false } }) s

/-- 38: SEC impl (2), R351: `P.C <- 1`. -/
def execSec (s : State) : Outcome := impliedInstr 2 (fun t => { t with p := { t.p with c := true } }) s

/-- 58: CLI impl (2), R352: `P.I <- 0`. -/
def execCli (s : State) : Outcome := impliedInstr 2 (fun t => { t with p := { t.p with i := false } }) s

/-- 78: SEI impl (2), R353: `P.I <- 1`. -/
def execSei (s : State) : Outcome := impliedInstr 2 (fun t => { t with p := { t.p with i := true } }) s

/-- D8: CLD impl (2), R354: `P.D <- 0`. -/
def execCld (s : State) : Outcome := impliedInstr 2 (fun t => { t with p := { t.p with d := false } }) s

/-- F8: SED impl (2), R355: `P.D <- 1`. -/
def execSed (s : State) : Outcome := impliedInstr 2 (fun t => { t with p := { t.p with d := true } }) s

/-- B8: CLV impl (2), R356: `P.V <- 0`. -/
def execClv (s : State) : Outcome := impliedInstr 2 (fun t => { t with p := { t.p with v := false } }) s

/-- EA: NOP impl (2), R357: the PC advance and the cycles only. -/
def execNop (s : State) : Outcome := impliedInstr 2 (fun t => t) s

end Sys2Proof.Machine
end

