-- ==== Sys2Proof/Machine/Loads.lean ====
section
/-! DEFINITION. The meanings of the loads, stores and register transfers of spec/41_load_store_transfer.md (R231 to R242): one definition per opcode byte over one shared definition per mnemonic. A meaning starts where the operand bytes are fetched (spec/40_step_addressing.md R201); its number is the base cycle count of spec/30_encoding.md R157. -/

namespace Sys2Proof.Machine

/-- LDA (R231): `A <- M; SetZN(A)`. -/
def lda (base : Nat) (o : ReadOp) (s : State) : Outcome :=
  readInstr base o (fun m t => { t with a := m, p := t.p.setZN m }) s

/-- A1: LDA izx (6), R231. -/
def execLdaIzx (b : Byte) (s : State) : Outcome := lda 6 (.mem (.izx b)) s

/-- A5: LDA zp (3), R231. -/
def execLdaZp (b : Byte) (s : State) : Outcome := lda 3 (.mem (.zp b)) s

/-- A9: LDA imm (2), R231. -/
def execLdaImm (b : Byte) (s : State) : Outcome := lda 2 (.imm b) s

/-- AD: LDA abs (4), R231. -/
def execLdaAbs (w : Addr) (s : State) : Outcome := lda 4 (.mem (.abs w)) s

/-- B1: LDA izy (5+p), R231. -/
def execLdaIzy (b : Byte) (s : State) : Outcome := lda 5 (.mem (.izy b)) s

/-- B5: LDA zpx (4), R231. -/
def execLdaZpx (b : Byte) (s : State) : Outcome := lda 4 (.mem (.zpx b)) s

/-- B9: LDA aby (4+p), R231. -/
def execLdaAby (w : Addr) (s : State) : Outcome := lda 4 (.mem (.aby w)) s

/-- BD: LDA abx (4+p), R231. -/
def execLdaAbx (w : Addr) (s : State) : Outcome := lda 4 (.mem (.abx w)) s

/-- LDX (R232): `X <- M; SetZN(X)`. -/
def ldx (base : Nat) (o : ReadOp) (s : State) : Outcome :=
  readInstr base o (fun m t => { t with x := m, p := t.p.setZN m }) s

/-- A2: LDX imm (2), R232. -/
def execLdxImm (b : Byte) (s : State) : Outcome := ldx 2 (.imm b) s

/-- A6: LDX zp (3), R232. -/
def execLdxZp (b : Byte) (s : State) : Outcome := ldx 3 (.mem (.zp b)) s

/-- AE: LDX abs (4), R232. -/
def execLdxAbs (w : Addr) (s : State) : Outcome := ldx 4 (.mem (.abs w)) s

/-- B6: LDX zpy (4), R232. -/
def execLdxZpy (b : Byte) (s : State) : Outcome := ldx 4 (.mem (.zpy b)) s

/-- BE: LDX aby (4+p), R232. -/
def execLdxAby (w : Addr) (s : State) : Outcome := ldx 4 (.mem (.aby w)) s

/-- LDY (R233): `Y <- M; SetZN(Y)`. -/
def ldy (base : Nat) (o : ReadOp) (s : State) : Outcome :=
  readInstr base o (fun m t => { t with y := m, p := t.p.setZN m }) s

/-- A0: LDY imm (2), R233. -/
def execLdyImm (b : Byte) (s : State) : Outcome := ldy 2 (.imm b) s

/-- A4: LDY zp (3), R233. -/
def execLdyZp (b : Byte) (s : State) : Outcome := ldy 3 (.mem (.zp b)) s

/-- AC: LDY abs (4), R233. -/
def execLdyAbs (w : Addr) (s : State) : Outcome := ldy 4 (.mem (.abs w)) s

/-- B4: LDY zpx (4), R233. -/
def execLdyZpx (b : Byte) (s : State) : Outcome := ldy 4 (.mem (.zpx b)) s

/-- BC: LDY abx (4+p), R233. -/
def execLdyAbx (w : Addr) (s : State) : Outcome := ldy 4 (.mem (.abx w)) s

/-- STA (R234): `MemWrite(ea, 1, A)`. -/
def sta (base : Nat) (m : MemOp) (s : State) : Outcome := storeInstr base m (fun t => t.a) s

/-- 81: STA izx (6), R234. -/
def execStaIzx (b : Byte) (s : State) : Outcome := sta 6 (.izx b) s

/-- 85: STA zp (3), R234. -/
def execStaZp (b : Byte) (s : State) : Outcome := sta 3 (.zp b) s

/-- 8D: STA abs (4), R234. -/
def execStaAbs (w : Addr) (s : State) : Outcome := sta 4 (.abs w) s

/-- 91: STA izy (6), R234. -/
def execStaIzy (b : Byte) (s : State) : Outcome := sta 6 (.izy b) s

/-- 95: STA zpx (4), R234. -/
def execStaZpx (b : Byte) (s : State) : Outcome := sta 4 (.zpx b) s

/-- 99: STA aby (5), R234. -/
def execStaAby (w : Addr) (s : State) : Outcome := sta 5 (.aby w) s

/-- 9D: STA abx (5), R234. -/
def execStaAbx (w : Addr) (s : State) : Outcome := sta 5 (.abx w) s

/-- STX (R235): `MemWrite(ea, 1, X)`. -/
def stx (base : Nat) (m : MemOp) (s : State) : Outcome := storeInstr base m (fun t => t.x) s

/-- 86: STX zp (3), R235. -/
def execStxZp (b : Byte) (s : State) : Outcome := stx 3 (.zp b) s

/-- 8E: STX abs (4), R235. -/
def execStxAbs (w : Addr) (s : State) : Outcome := stx 4 (.abs w) s

/-- 96: STX zpy (4), R235. -/
def execStxZpy (b : Byte) (s : State) : Outcome := stx 4 (.zpy b) s

/-- STY (R236): `MemWrite(ea, 1, Y)`. -/
def sty (base : Nat) (m : MemOp) (s : State) : Outcome := storeInstr base m (fun t => t.y) s

/-- 84: STY zp (3), R236. -/
def execStyZp (b : Byte) (s : State) : Outcome := sty 3 (.zp b) s

/-- 8C: STY abs (4), R236. -/
def execStyAbs (w : Addr) (s : State) : Outcome := sty 4 (.abs w) s

/-- 94: STY zpx (4), R236. -/
def execStyZpx (b : Byte) (s : State) : Outcome := sty 4 (.zpx b) s

/-- AA: TAX impl (2), R237: `X <- A; SetZN(X)`. -/
def execTax (s : State) : Outcome := impliedInstr 2 (fun t => { t with x := t.a, p := t.p.setZN t.a }) s

/-- A8: TAY impl (2), R238: `Y <- A; SetZN(Y)`. -/
def execTay (s : State) : Outcome := impliedInstr 2 (fun t => { t with y := t.a, p := t.p.setZN t.a }) s

/-- 8A: TXA impl (2), R239: `A <- X; SetZN(A)`. -/
def execTxa (s : State) : Outcome := impliedInstr 2 (fun t => { t with a := t.x, p := t.p.setZN t.x }) s

/-- 98: TYA impl (2), R240: `A <- Y; SetZN(A)`. -/
def execTya (s : State) : Outcome := impliedInstr 2 (fun t => { t with a := t.y, p := t.p.setZN t.y }) s

/-- BA: TSX impl (2), R241: `X <- SP; SetZN(X)`. -/
def execTsx (s : State) : Outcome := impliedInstr 2 (fun t => { t with x := t.sp, p := t.p.setZN t.sp }) s

/-- 9A: TXS impl (2), R242: `SP <- X`, no flag. -/
def execTxs (s : State) : Outcome := impliedInstr 2 (fun t => { t with sp := t.x }) s

end Sys2Proof.Machine
end

