-- ==== Sys2Proof/Machine/Stack.lean ====
section
/-! DEFINITION. The meanings of the stack instructions of spec/42_stack.md (R260 to R263): one definition per opcode byte over one shared definition per mnemonic. A meaning starts where the operand bytes are fetched (spec/40_step_addressing.md R201); its number is the base cycle count of spec/30_encoding.md R157. -/

namespace Sys2Proof.Machine

/-- 48: PHA impl (3 cycles), R260: `Push(A)`. -/
def execPha (s : State) : Outcome := (push s.a (advance 1 3 s)).finish fun _ t => .next t

/-- 08: PHP impl (3), R261: `Push(P | 0x30)`. -/
def execPhp (s : State) : Outcome := (push (breakStatus s.p) (advance 1 3 s)).finish fun _ t => .next t

/-- 68: PLA impl (4), R262: `A <- Pull(); SetZN(A)`. -/
def execPla (s : State) : Outcome :=
  (pull (advance 1 4 s)).finish fun v t => .next { t with a := v, p := t.p.setZN v }

/-- 28: PLP impl (4), R263: P from the pulled byte, B forced to 0 and U to 1. -/
def execPlp (s : State) : Outcome :=
  (pull (advance 1 4 s)).finish fun v t => .next { t with p := Flags.ofByte v }

end Sys2Proof.Machine
end

