-- ==== Sys2Proof/Machine/Arith.lean ====
section
/-! DEFINITION. The meanings of the arithmetic, logic, bit-test and compare instructions of spec/43_arithmetic_logic.md (R270 to R281): one definition per opcode byte over one shared definition per mnemonic. A meaning starts where the operand bytes are fetched (spec/40_step_addressing.md R201); its number is the base cycle count of spec/30_encoding.md R157. -/

namespace Sys2Proof.Machine

/-- ADC (R271): `AddCore(A, M, P.C)` into A, C, V, Z, N; P.D is ignored. -/
def adc (base : Nat) (o : ReadOp) (s : State) : Outcome :=
  readInstr base o (fun m t => addToA m t) s

/-- 61: ADC izx (6), R271. -/
def execAdcIzx (b : Byte) (s : State) : Outcome := adc 6 (.mem (.izx b)) s

/-- 65: ADC zp (3), R271. -/
def execAdcZp (b : Byte) (s : State) : Outcome := adc 3 (.mem (.zp b)) s

/-- 69: ADC imm (2), R271. -/
def execAdcImm (b : Byte) (s : State) : Outcome := adc 2 (.imm b) s

/-- 6D: ADC abs (4), R271. -/
def execAdcAbs (w : Addr) (s : State) : Outcome := adc 4 (.mem (.abs w)) s

/-- 71: ADC izy (5+p), R271. -/
def execAdcIzy (b : Byte) (s : State) : Outcome := adc 5 (.mem (.izy b)) s

/-- 75: ADC zpx (4), R271. -/
def execAdcZpx (b : Byte) (s : State) : Outcome := adc 4 (.mem (.zpx b)) s

/-- 79: ADC aby (4+p), R271. -/
def execAdcAby (w : Addr) (s : State) : Outcome := adc 4 (.mem (.aby w)) s

/-- 7D: ADC abx (4+p), R271. -/
def execAdcAbx (w : Addr) (s : State) : Outcome := adc 4 (.mem (.abx w)) s

/-- SBC (R272): `AddCore(A, M ^ 0xFF, P.C)` into A, C, V, Z, N; P.D is ignored. -/
def sbc (base : Nat) (o : ReadOp) (s : State) : Outcome :=
  readInstr base o (fun m t => addToA (m ^^^ 0xFF#8) t) s

/-- E1: SBC izx (6), R272. -/
def execSbcIzx (b : Byte) (s : State) : Outcome := sbc 6 (.mem (.izx b)) s

/-- E5: SBC zp (3), R272. -/
def execSbcZp (b : Byte) (s : State) : Outcome := sbc 3 (.mem (.zp b)) s

/-- E9: SBC imm (2), R272. -/
def execSbcImm (b : Byte) (s : State) : Outcome := sbc 2 (.imm b) s

/-- ED: SBC abs (4), R272. -/
def execSbcAbs (w : Addr) (s : State) : Outcome := sbc 4 (.mem (.abs w)) s

/-- F1: SBC izy (5+p), R272. -/
def execSbcIzy (b : Byte) (s : State) : Outcome := sbc 5 (.mem (.izy b)) s

/-- F5: SBC zpx (4), R272. -/
def execSbcZpx (b : Byte) (s : State) : Outcome := sbc 4 (.mem (.zpx b)) s

/-- F9: SBC aby (4+p), R272. -/
def execSbcAby (w : Addr) (s : State) : Outcome := sbc 4 (.mem (.aby w)) s

/-- FD: SBC abx (4+p), R272. -/
def execSbcAbx (w : Addr) (s : State) : Outcome := sbc 4 (.mem (.abx w)) s

/-- AND (R274): `A <- A & M; SetZN(A)`. -/
def andA (base : Nat) (o : ReadOp) (s : State) : Outcome :=
  readInstr base o (fun m t => { t with a := t.a &&& m, p := t.p.setZN (t.a &&& m) }) s

/-- 21: AND izx (6), R274. -/
def execAndIzx (b : Byte) (s : State) : Outcome := andA 6 (.mem (.izx b)) s

/-- 25: AND zp (3), R274. -/
def execAndZp (b : Byte) (s : State) : Outcome := andA 3 (.mem (.zp b)) s

/-- 29: AND imm (2), R274. -/
def execAndImm (b : Byte) (s : State) : Outcome := andA 2 (.imm b) s

/-- 2D: AND abs (4), R274. -/
def execAndAbs (w : Addr) (s : State) : Outcome := andA 4 (.mem (.abs w)) s

/-- 31: AND izy (5+p), R274. -/
def execAndIzy (b : Byte) (s : State) : Outcome := andA 5 (.mem (.izy b)) s

/-- 35: AND zpx (4), R274. -/
def execAndZpx (b : Byte) (s : State) : Outcome := andA 4 (.mem (.zpx b)) s

/-- 39: AND aby (4+p), R274. -/
def execAndAby (w : Addr) (s : State) : Outcome := andA 4 (.mem (.aby w)) s

/-- 3D: AND abx (4+p), R274. -/
def execAndAbx (w : Addr) (s : State) : Outcome := andA 4 (.mem (.abx w)) s

/-- ORA (R275): `A <- A | M; SetZN(A)`. -/
def ora (base : Nat) (o : ReadOp) (s : State) : Outcome :=
  readInstr base o (fun m t => { t with a := t.a ||| m, p := t.p.setZN (t.a ||| m) }) s

/-- 01: ORA izx (6), R275. -/
def execOraIzx (b : Byte) (s : State) : Outcome := ora 6 (.mem (.izx b)) s

/-- 05: ORA zp (3), R275. -/
def execOraZp (b : Byte) (s : State) : Outcome := ora 3 (.mem (.zp b)) s

/-- 09: ORA imm (2), R275. -/
def execOraImm (b : Byte) (s : State) : Outcome := ora 2 (.imm b) s

/-- 0D: ORA abs (4), R275. -/
def execOraAbs (w : Addr) (s : State) : Outcome := ora 4 (.mem (.abs w)) s

/-- 11: ORA izy (5+p), R275. -/
def execOraIzy (b : Byte) (s : State) : Outcome := ora 5 (.mem (.izy b)) s

/-- 15: ORA zpx (4), R275. -/
def execOraZpx (b : Byte) (s : State) : Outcome := ora 4 (.mem (.zpx b)) s

/-- 19: ORA aby (4+p), R275. -/
def execOraAby (w : Addr) (s : State) : Outcome := ora 4 (.mem (.aby w)) s

/-- 1D: ORA abx (4+p), R275. -/
def execOraAbx (w : Addr) (s : State) : Outcome := ora 4 (.mem (.abx w)) s

/-- EOR (R276): `A <- A ^ M; SetZN(A)`. -/
def eor (base : Nat) (o : ReadOp) (s : State) : Outcome :=
  readInstr base o (fun m t => { t with a := t.a ^^^ m, p := t.p.setZN (t.a ^^^ m) }) s

/-- 41: EOR izx (6), R276. -/
def execEorIzx (b : Byte) (s : State) : Outcome := eor 6 (.mem (.izx b)) s

/-- 45: EOR zp (3), R276. -/
def execEorZp (b : Byte) (s : State) : Outcome := eor 3 (.mem (.zp b)) s

/-- 49: EOR imm (2), R276. -/
def execEorImm (b : Byte) (s : State) : Outcome := eor 2 (.imm b) s

/-- 4D: EOR abs (4), R276. -/
def execEorAbs (w : Addr) (s : State) : Outcome := eor 4 (.mem (.abs w)) s

/-- 51: EOR izy (5+p), R276. -/
def execEorIzy (b : Byte) (s : State) : Outcome := eor 5 (.mem (.izy b)) s

/-- 55: EOR zpx (4), R276. -/
def execEorZpx (b : Byte) (s : State) : Outcome := eor 4 (.mem (.zpx b)) s

/-- 59: EOR aby (4+p), R276. -/
def execEorAby (w : Addr) (s : State) : Outcome := eor 4 (.mem (.aby w)) s

/-- 5D: EOR abx (4+p), R276. -/
def execEorAbx (w : Addr) (s : State) : Outcome := eor 4 (.mem (.abx w)) s

/-- BIT (R277): Z from `A & M`, V and N from bits 6 and 7 of M; A is not written. -/
def bitTest (base : Nat) (o : ReadOp) (s : State) : Outcome :=
  readInstr base o (fun m t => { t with p := { t.p with z := decide (t.a &&& m = 0), v := m.getLsbD 6, n := m.getLsbD 7 } }) s

/-- 24: BIT zp (3), R277. -/
def execBitZp (b : Byte) (s : State) : Outcome := bitTest 3 (.mem (.zp b)) s

/-- 2C: BIT abs (4), R277. -/
def execBitAbs (w : Addr) (s : State) : Outcome := bitTest 4 (.mem (.abs w)) s

/-- CMP (R279): `Compare(A, M)`. -/
def cmp (base : Nat) (o : ReadOp) (s : State) : Outcome :=
  readInstr base o (fun m t => { t with p := t.p.compare t.a m }) s

/-- C1: CMP izx (6), R279. -/
def execCmpIzx (b : Byte) (s : State) : Outcome := cmp 6 (.mem (.izx b)) s

/-- C5: CMP zp (3), R279. -/
def execCmpZp (b : Byte) (s : State) : Outcome := cmp 3 (.mem (.zp b)) s

/-- C9: CMP imm (2), R279. -/
def execCmpImm (b : Byte) (s : State) : Outcome := cmp 2 (.imm b) s

/-- CD: CMP abs (4), R279. -/
def execCmpAbs (w : Addr) (s : State) : Outcome := cmp 4 (.mem (.abs w)) s

/-- D1: CMP izy (5+p), R279. -/
def execCmpIzy (b : Byte) (s : State) : Outcome := cmp 5 (.mem (.izy b)) s

/-- D5: CMP zpx (4), R279. -/
def execCmpZpx (b : Byte) (s : State) : Outcome := cmp 4 (.mem (.zpx b)) s

/-- D9: CMP aby (4+p), R279. -/
def execCmpAby (w : Addr) (s : State) : Outcome := cmp 4 (.mem (.aby w)) s

/-- DD: CMP abx (4+p), R279. -/
def execCmpAbx (w : Addr) (s : State) : Outcome := cmp 4 (.mem (.abx w)) s

/-- CPX (R280): `Compare(X, M)`. -/
def cpx (base : Nat) (o : ReadOp) (s : State) : Outcome :=
  readInstr base o (fun m t => { t with p := t.p.compare t.x m }) s

/-- E0: CPX imm (2), R280. -/
def execCpxImm (b : Byte) (s : State) : Outcome := cpx 2 (.imm b) s

/-- E4: CPX zp (3), R280. -/
def execCpxZp (b : Byte) (s : State) : Outcome := cpx 3 (.mem (.zp b)) s

/-- EC: CPX abs (4), R280. -/
def execCpxAbs (w : Addr) (s : State) : Outcome := cpx 4 (.mem (.abs w)) s

/-- CPY (R281): `Compare(Y, M)`. -/
def cpy (base : Nat) (o : ReadOp) (s : State) : Outcome :=
  readInstr base o (fun m t => { t with p := t.p.compare t.y m }) s

/-- C0: CPY imm (2), R281. -/
def execCpyImm (b : Byte) (s : State) : Outcome := cpy 2 (.imm b) s

/-- C4: CPY zp (3), R281. -/
def execCpyZp (b : Byte) (s : State) : Outcome := cpy 3 (.mem (.zp b)) s

/-- CC: CPY abs (4), R281. -/
def execCpyAbs (w : Addr) (s : State) : Outcome := cpy 4 (.mem (.abs w)) s

end Sys2Proof.Machine
end

