-- ==== Sys2Proof/Machine/Shifts.lean ====
section
/-! DEFINITION. The meanings of the increments, decrements, shifts and rotates of spec/44_inc_dec_shift.md (R300 to R309): one definition per opcode byte over one shared definition per mnemonic. A meaning starts where the operand bytes are fetched (spec/40_step_addressing.md R201); its number is the base cycle count of spec/30_encoding.md R157. -/

namespace Sys2Proof.Machine

/-- The shift left of R306 and R377: C from bit 7. -/
def shiftLeft (v : Byte) (_ : Bool) : Modified := ⟨v <<< 1, v.getLsbD 7⟩

/-- The shift right of R307 and R379: C from bit 0. -/
def shiftRight (v : Byte) (_ : Bool) : Modified := ⟨v >>> 1, v.getLsbD 0⟩

/-- The rotate left of R308 and R378: the old C into bit 0, C from bit 7. -/
def rotateLeft (v : Byte) (c : Bool) : Modified := ⟨(v <<< 1) ||| (BitVec.ofBool c).setWidth 8, v.getLsbD 7⟩

/-- The rotate right of R309 and R380: the old C into bit 7, C from bit 0. -/
def rotateRight (v : Byte) (c : Bool) : Modified := ⟨(v >>> 1) ||| ((BitVec.ofBool c).setWidth 8 <<< 7), v.getLsbD 0⟩

/-- A shift or rotate (R306 to R309): on A, or read-modify-write on memory; C, then Z and N from the result. -/
def shiftInstr (base : Nat) (o : ShiftOp) (modify : Byte → Bool → Modified) (s : State) : Outcome :=
  match o with
  | .acc =>
    impliedInstr base (fun t =>
      let r := modify t.a t.p.c
      { t with a := r.r, p := { t.p with c := r.c }.setZN r.r }) s
  | .mem m => rmwInstr base m modify (fun r t => { t with p := t.p.setZN r }) s

/-- INC (R300): `r <- M + 1`, stored, `SetZN(r)`. -/
def inc (base : Nat) (m : MemOp) (s : State) : Outcome :=
  rmwInstr base m (fun v c => ⟨v + 1, c⟩) (fun r t => { t with p := t.p.setZN r }) s

/-- E6: INC zp (5), R300. -/
def execIncZp (b : Byte) (s : State) : Outcome := inc 5 (.zp b) s

/-- EE: INC abs (6), R300. -/
def execIncAbs (w : Addr) (s : State) : Outcome := inc 6 (.abs w) s

/-- F6: INC zpx (6), R300. -/
def execIncZpx (b : Byte) (s : State) : Outcome := inc 6 (.zpx b) s

/-- FE: INC abx (7), R300. -/
def execIncAbx (w : Addr) (s : State) : Outcome := inc 7 (.abx w) s

/-- DEC (R301): `r <- M - 1`, stored, `SetZN(r)`. -/
def dec (base : Nat) (m : MemOp) (s : State) : Outcome :=
  rmwInstr base m (fun v c => ⟨v - 1, c⟩) (fun r t => { t with p := t.p.setZN r }) s

/-- C6: DEC zp (5), R301. -/
def execDecZp (b : Byte) (s : State) : Outcome := dec 5 (.zp b) s

/-- CE: DEC abs (6), R301. -/
def execDecAbs (w : Addr) (s : State) : Outcome := dec 6 (.abs w) s

/-- D6: DEC zpx (6), R301. -/
def execDecZpx (b : Byte) (s : State) : Outcome := dec 6 (.zpx b) s

/-- DE: DEC abx (7), R301. -/
def execDecAbx (w : Addr) (s : State) : Outcome := dec 7 (.abx w) s

/-- E8: INX impl (2), R302: `X <- X + 1; SetZN(X)`. -/
def execInx (s : State) : Outcome := impliedInstr 2 (fun t => { t with x := t.x + 1, p := t.p.setZN (t.x + 1) }) s

/-- C8: INY impl (2), R303: `Y <- Y + 1; SetZN(Y)`. -/
def execIny (s : State) : Outcome := impliedInstr 2 (fun t => { t with y := t.y + 1, p := t.p.setZN (t.y + 1) }) s

/-- CA: DEX impl (2), R304: `X <- X - 1; SetZN(X)`. -/
def execDex (s : State) : Outcome := impliedInstr 2 (fun t => { t with x := t.x - 1, p := t.p.setZN (t.x - 1) }) s

/-- 88: DEY impl (2), R305: `Y <- Y - 1; SetZN(Y)`. -/
def execDey (s : State) : Outcome := impliedInstr 2 (fun t => { t with y := t.y - 1, p := t.p.setZN (t.y - 1) }) s

/-- ASL (R306), on A or on memory. -/
def asl (base : Nat) (o : ShiftOp) (s : State) : Outcome := shiftInstr base o shiftLeft s

/-- 06: ASL zp (5), R306. -/
def execAslZp (b : Byte) (s : State) : Outcome := asl 5 (.mem (.zp b)) s

/-- 0A: ASL acc (2), R306. -/
def execAslAcc (s : State) : Outcome := asl 2 .acc s

/-- 0E: ASL abs (6), R306. -/
def execAslAbs (w : Addr) (s : State) : Outcome := asl 6 (.mem (.abs w)) s

/-- 16: ASL zpx (6), R306. -/
def execAslZpx (b : Byte) (s : State) : Outcome := asl 6 (.mem (.zpx b)) s

/-- 1E: ASL abx (7), R306. -/
def execAslAbx (w : Addr) (s : State) : Outcome := asl 7 (.mem (.abx w)) s

/-- LSR (R307), on A or on memory. -/
def lsr (base : Nat) (o : ShiftOp) (s : State) : Outcome := shiftInstr base o shiftRight s

/-- 46: LSR zp (5), R307. -/
def execLsrZp (b : Byte) (s : State) : Outcome := lsr 5 (.mem (.zp b)) s

/-- 4A: LSR acc (2), R307. -/
def execLsrAcc (s : State) : Outcome := lsr 2 .acc s

/-- 4E: LSR abs (6), R307. -/
def execLsrAbs (w : Addr) (s : State) : Outcome := lsr 6 (.mem (.abs w)) s

/-- 56: LSR zpx (6), R307. -/
def execLsrZpx (b : Byte) (s : State) : Outcome := lsr 6 (.mem (.zpx b)) s

/-- 5E: LSR abx (7), R307. -/
def execLsrAbx (w : Addr) (s : State) : Outcome := lsr 7 (.mem (.abx w)) s

/-- ROL (R308), on A or on memory. -/
def rol (base : Nat) (o : ShiftOp) (s : State) : Outcome := shiftInstr base o rotateLeft s

/-- 26: ROL zp (5), R308. -/
def execRolZp (b : Byte) (s : State) : Outcome := rol 5 (.mem (.zp b)) s

/-- 2A: ROL acc (2), R308. -/
def execRolAcc (s : State) : Outcome := rol 2 .acc s

/-- 2E: ROL abs (6), R308. -/
def execRolAbs (w : Addr) (s : State) : Outcome := rol 6 (.mem (.abs w)) s

/-- 36: ROL zpx (6), R308. -/
def execRolZpx (b : Byte) (s : State) : Outcome := rol 6 (.mem (.zpx b)) s

/-- 3E: ROL abx (7), R308. -/
def execRolAbx (w : Addr) (s : State) : Outcome := rol 7 (.mem (.abx w)) s

/-- ROR (R309), on A or on memory. -/
def ror (base : Nat) (o : ShiftOp) (s : State) : Outcome := shiftInstr base o rotateRight s

/-- 66: ROR zp (5), R309. -/
def execRorZp (b : Byte) (s : State) : Outcome := ror 5 (.mem (.zp b)) s

/-- 6A: ROR acc (2), R309. -/
def execRorAcc (s : State) : Outcome := ror 2 .acc s

/-- 6E: ROR abs (6), R309. -/
def execRorAbs (w : Addr) (s : State) : Outcome := ror 6 (.mem (.abs w)) s

/-- 76: ROR zpx (6), R309. -/
def execRorZpx (b : Byte) (s : State) : Outcome := ror 6 (.mem (.zpx b)) s

/-- 7E: ROR abx (7), R309. -/
def execRorAbx (w : Addr) (s : State) : Outcome := ror 7 (.mem (.abx w)) s

end Sys2Proof.Machine
end

