-- ==== Sys2Proof/Machine/Unofficial.lean ====
section
/-! DEFINITION. The meanings of the unofficial and the always-illegal opcodes of spec/47_unofficial.md (R370 to R381): one definition per opcode byte over one shared definition per mnemonic. A meaning starts where the operand bytes are fetched (spec/40_step_addressing.md R201); its number is the base cycle count of spec/30_encoding.md R157. -/

namespace Sys2Proof.Machine

/-- The unofficial NOPs with an operand (R371): the operand is read and discarded, with the side effects of the read. -/
def nopRead (base : Nat) (o : ReadOp) (s : State) : Outcome :=
  readInstr base o (fun _ t => t) s

/-- 04: NOP zp (3), R371. -/
def execNop04 (b : Byte) (s : State) : Outcome := gated 0x04#8 (nopRead 3 (.mem (.zp b))) s

/-- 0C: NOP abs (4), R371. -/
def execNop0C (w : Addr) (s : State) : Outcome := gated 0x0C#8 (nopRead 4 (.mem (.abs w))) s

/-- 14: NOP zpx (4), R371. -/
def execNop14 (b : Byte) (s : State) : Outcome := gated 0x14#8 (nopRead 4 (.mem (.zpx b))) s

/-- 1A: NOP impl (2), R371. -/
def execNop1A (s : State) : Outcome := gated 0x1A#8 (impliedInstr 2 (fun t => t)) s

/-- 1C: NOP abx (4+p), R371. -/
def execNop1C (w : Addr) (s : State) : Outcome := gated 0x1C#8 (nopRead 4 (.mem (.abx w))) s

/-- 34: NOP zpx (4), R371. -/
def execNop34 (b : Byte) (s : State) : Outcome := gated 0x34#8 (nopRead 4 (.mem (.zpx b))) s

/-- 3A: NOP impl (2), R371. -/
def execNop3A (s : State) : Outcome := gated 0x3A#8 (impliedInstr 2 (fun t => t)) s

/-- 3C: NOP abx (4+p), R371. -/
def execNop3C (w : Addr) (s : State) : Outcome := gated 0x3C#8 (nopRead 4 (.mem (.abx w))) s

/-- 44: NOP zp (3), R371. -/
def execNop44 (b : Byte) (s : State) : Outcome := gated 0x44#8 (nopRead 3 (.mem (.zp b))) s

/-- 54: NOP zpx (4), R371. -/
def execNop54 (b : Byte) (s : State) : Outcome := gated 0x54#8 (nopRead 4 (.mem (.zpx b))) s

/-- 5A: NOP impl (2), R371. -/
def execNop5A (s : State) : Outcome := gated 0x5A#8 (impliedInstr 2 (fun t => t)) s

/-- 5C: NOP abx (4+p), R371. -/
def execNop5C (w : Addr) (s : State) : Outcome := gated 0x5C#8 (nopRead 4 (.mem (.abx w))) s

/-- 64: NOP zp (3), R371. -/
def execNop64 (b : Byte) (s : State) : Outcome := gated 0x64#8 (nopRead 3 (.mem (.zp b))) s

/-- 74: NOP zpx (4), R371. -/
def execNop74 (b : Byte) (s : State) : Outcome := gated 0x74#8 (nopRead 4 (.mem (.zpx b))) s

/-- 7A: NOP impl (2), R371. -/
def execNop7A (s : State) : Outcome := gated 0x7A#8 (impliedInstr 2 (fun t => t)) s

/-- 7C: NOP abx (4+p), R371. -/
def execNop7C (w : Addr) (s : State) : Outcome := gated 0x7C#8 (nopRead 4 (.mem (.abx w))) s

/-- 80: NOP imm (2), R371. -/
def execNop80 (b : Byte) (s : State) : Outcome := gated 0x80#8 (nopRead 2 (.imm b)) s

/-- 82: NOP imm (2), R371. -/
def execNop82 (b : Byte) (s : State) : Outcome := gated 0x82#8 (nopRead 2 (.imm b)) s

/-- 89: NOP imm (2), R371. -/
def execNop89 (b : Byte) (s : State) : Outcome := gated 0x89#8 (nopRead 2 (.imm b)) s

/-- C2: NOP imm (2), R371. -/
def execNopC2 (b : Byte) (s : State) : Outcome := gated 0xC2#8 (nopRead 2 (.imm b)) s

/-- D4: NOP zpx (4), R371. -/
def execNopD4 (b : Byte) (s : State) : Outcome := gated 0xD4#8 (nopRead 4 (.mem (.zpx b))) s

/-- DA: NOP impl (2), R371. -/
def execNopDA (s : State) : Outcome := gated 0xDA#8 (impliedInstr 2 (fun t => t)) s

/-- DC: NOP abx (4+p), R371. -/
def execNopDC (w : Addr) (s : State) : Outcome := gated 0xDC#8 (nopRead 4 (.mem (.abx w))) s

/-- E2: NOP imm (2), R371. -/
def execNopE2 (b : Byte) (s : State) : Outcome := gated 0xE2#8 (nopRead 2 (.imm b)) s

/-- F4: NOP zpx (4), R371. -/
def execNopF4 (b : Byte) (s : State) : Outcome := gated 0xF4#8 (nopRead 4 (.mem (.zpx b))) s

/-- FA: NOP impl (2), R371. -/
def execNopFA (s : State) : Outcome := gated 0xFA#8 (impliedInstr 2 (fun t => t)) s

/-- FC: NOP abx (4+p), R371. -/
def execNopFC (w : Addr) (s : State) : Outcome := gated 0xFC#8 (nopRead 4 (.mem (.abx w))) s

/-- LAX (R372): `A <- M; X <- M; SetZN(M)`. -/
def lax (base : Nat) (o : ReadOp) (s : State) : Outcome :=
  readInstr base o (fun m t => { t with a := m, x := m, p := t.p.setZN m }) s

/-- A3: LAX izx (6), R372. -/
def execLaxIzx (b : Byte) (s : State) : Outcome := gated 0xA3#8 (lax 6 (.mem (.izx b))) s

/-- A7: LAX zp (3), R372. -/
def execLaxZp (b : Byte) (s : State) : Outcome := gated 0xA7#8 (lax 3 (.mem (.zp b))) s

/-- AF: LAX abs (4), R372. -/
def execLaxAbs (w : Addr) (s : State) : Outcome := gated 0xAF#8 (lax 4 (.mem (.abs w))) s

/-- B3: LAX izy (5+p), R372. -/
def execLaxIzy (b : Byte) (s : State) : Outcome := gated 0xB3#8 (lax 5 (.mem (.izy b))) s

/-- B7: LAX zpy (4), R372. -/
def execLaxZpy (b : Byte) (s : State) : Outcome := gated 0xB7#8 (lax 4 (.mem (.zpy b))) s

/-- BF: LAX aby (4+p), R372. -/
def execLaxAby (w : Addr) (s : State) : Outcome := gated 0xBF#8 (lax 4 (.mem (.aby w))) s

/-- SAX (R373): `MemWrite(ea, 1, A & X)`, no flag. -/
def sax (base : Nat) (m : MemOp) (s : State) : Outcome := storeInstr base m (fun t => t.a &&& t.x) s

/-- 83: SAX izx (6), R373. -/
def execSaxIzx (b : Byte) (s : State) : Outcome := gated 0x83#8 (sax 6 (.izx b)) s

/-- 87: SAX zp (3), R373. -/
def execSaxZp (b : Byte) (s : State) : Outcome := gated 0x87#8 (sax 3 (.zp b)) s

/-- 8F: SAX abs (4), R373. -/
def execSaxAbs (w : Addr) (s : State) : Outcome := gated 0x8F#8 (sax 4 (.abs w)) s

/-- 97: SAX zpy (4), R373. -/
def execSaxZpy (b : Byte) (s : State) : Outcome := gated 0x97#8 (sax 4 (.zpy b)) s

/-- EB: SBC imm (2), R374. -/
def execSbcImmEB (b : Byte) (s : State) : Outcome := gated 0xEB#8 (sbc 2 (.imm b)) s

/-- DCP (R375): `r <- M - 1`, stored, `Compare(A, r)`. -/
def dcp (base : Nat) (m : MemOp) (s : State) : Outcome :=
  rmwInstr base m (fun v c => ⟨v - 1, c⟩) (fun r t => { t with p := t.p.compare t.a r }) s

/-- C3: DCP izx (8), R375. -/
def execDcpIzx (b : Byte) (s : State) : Outcome := gated 0xC3#8 (dcp 8 (.izx b)) s

/-- C7: DCP zp (5), R375. -/
def execDcpZp (b : Byte) (s : State) : Outcome := gated 0xC7#8 (dcp 5 (.zp b)) s

/-- CF: DCP abs (6), R375. -/
def execDcpAbs (w : Addr) (s : State) : Outcome := gated 0xCF#8 (dcp 6 (.abs w)) s

/-- D3: DCP izy (8), R375. -/
def execDcpIzy (b : Byte) (s : State) : Outcome := gated 0xD3#8 (dcp 8 (.izy b)) s

/-- D7: DCP zpx (6), R375. -/
def execDcpZpx (b : Byte) (s : State) : Outcome := gated 0xD7#8 (dcp 6 (.zpx b)) s

/-- DB: DCP aby (7), R375. -/
def execDcpAby (w : Addr) (s : State) : Outcome := gated 0xDB#8 (dcp 7 (.aby w)) s

/-- DF: DCP abx (7), R375. -/
def execDcpAbx (w : Addr) (s : State) : Outcome := gated 0xDF#8 (dcp 7 (.abx w)) s

/-- ISB (R376): `r <- M + 1`, stored, then A minus r with borrow. -/
def isb (base : Nat) (m : MemOp) (s : State) : Outcome :=
  rmwInstr base m (fun v c => ⟨v + 1, c⟩) (fun r t => addToA (r ^^^ 0xFF#8) t) s

/-- E3: ISB izx (8), R376. -/
def execIsbIzx (b : Byte) (s : State) : Outcome := gated 0xE3#8 (isb 8 (.izx b)) s

/-- E7: ISB zp (5), R376. -/
def execIsbZp (b : Byte) (s : State) : Outcome := gated 0xE7#8 (isb 5 (.zp b)) s

/-- EF: ISB abs (6), R376. -/
def execIsbAbs (w : Addr) (s : State) : Outcome := gated 0xEF#8 (isb 6 (.abs w)) s

/-- F3: ISB izy (8), R376. -/
def execIsbIzy (b : Byte) (s : State) : Outcome := gated 0xF3#8 (isb 8 (.izy b)) s

/-- F7: ISB zpx (6), R376. -/
def execIsbZpx (b : Byte) (s : State) : Outcome := gated 0xF7#8 (isb 6 (.zpx b)) s

/-- FB: ISB aby (7), R376. -/
def execIsbAby (w : Addr) (s : State) : Outcome := gated 0xFB#8 (isb 7 (.aby w)) s

/-- FF: ISB abx (7), R376. -/
def execIsbAbx (w : Addr) (s : State) : Outcome := gated 0xFF#8 (isb 7 (.abx w)) s

/-- SLO (R377): M shifted left, stored, then ORed into A. -/
def slo (base : Nat) (m : MemOp) (s : State) : Outcome :=
  rmwInstr base m shiftLeft (fun r t => { t with a := t.a ||| r, p := t.p.setZN (t.a ||| r) }) s

/-- 03: SLO izx (8), R377. -/
def execSloIzx (b : Byte) (s : State) : Outcome := gated 0x03#8 (slo 8 (.izx b)) s

/-- 07: SLO zp (5), R377. -/
def execSloZp (b : Byte) (s : State) : Outcome := gated 0x07#8 (slo 5 (.zp b)) s

/-- 0F: SLO abs (6), R377. -/
def execSloAbs (w : Addr) (s : State) : Outcome := gated 0x0F#8 (slo 6 (.abs w)) s

/-- 13: SLO izy (8), R377. -/
def execSloIzy (b : Byte) (s : State) : Outcome := gated 0x13#8 (slo 8 (.izy b)) s

/-- 17: SLO zpx (6), R377. -/
def execSloZpx (b : Byte) (s : State) : Outcome := gated 0x17#8 (slo 6 (.zpx b)) s

/-- 1B: SLO aby (7), R377. -/
def execSloAby (w : Addr) (s : State) : Outcome := gated 0x1B#8 (slo 7 (.aby w)) s

/-- 1F: SLO abx (7), R377. -/
def execSloAbx (w : Addr) (s : State) : Outcome := gated 0x1F#8 (slo 7 (.abx w)) s

/-- RLA (R378): M rotated left, stored, then ANDed into A. -/
def rla (base : Nat) (m : MemOp) (s : State) : Outcome :=
  rmwInstr base m rotateLeft (fun r t => { t with a := t.a &&& r, p := t.p.setZN (t.a &&& r) }) s

/-- 23: RLA izx (8), R378. -/
def execRlaIzx (b : Byte) (s : State) : Outcome := gated 0x23#8 (rla 8 (.izx b)) s

/-- 27: RLA zp (5), R378. -/
def execRlaZp (b : Byte) (s : State) : Outcome := gated 0x27#8 (rla 5 (.zp b)) s

/-- 2F: RLA abs (6), R378. -/
def execRlaAbs (w : Addr) (s : State) : Outcome := gated 0x2F#8 (rla 6 (.abs w)) s

/-- 33: RLA izy (8), R378. -/
def execRlaIzy (b : Byte) (s : State) : Outcome := gated 0x33#8 (rla 8 (.izy b)) s

/-- 37: RLA zpx (6), R378. -/
def execRlaZpx (b : Byte) (s : State) : Outcome := gated 0x37#8 (rla 6 (.zpx b)) s

/-- 3B: RLA aby (7), R378. -/
def execRlaAby (w : Addr) (s : State) : Outcome := gated 0x3B#8 (rla 7 (.aby w)) s

/-- 3F: RLA abx (7), R378. -/
def execRlaAbx (w : Addr) (s : State) : Outcome := gated 0x3F#8 (rla 7 (.abx w)) s

/-- SRE (R379): M shifted right, stored, then EORed into A. -/
def sre (base : Nat) (m : MemOp) (s : State) : Outcome :=
  rmwInstr base m shiftRight (fun r t => { t with a := t.a ^^^ r, p := t.p.setZN (t.a ^^^ r) }) s

/-- 43: SRE izx (8), R379. -/
def execSreIzx (b : Byte) (s : State) : Outcome := gated 0x43#8 (sre 8 (.izx b)) s

/-- 47: SRE zp (5), R379. -/
def execSreZp (b : Byte) (s : State) : Outcome := gated 0x47#8 (sre 5 (.zp b)) s

/-- 4F: SRE abs (6), R379. -/
def execSreAbs (w : Addr) (s : State) : Outcome := gated 0x4F#8 (sre 6 (.abs w)) s

/-- 53: SRE izy (8), R379. -/
def execSreIzy (b : Byte) (s : State) : Outcome := gated 0x53#8 (sre 8 (.izy b)) s

/-- 57: SRE zpx (6), R379. -/
def execSreZpx (b : Byte) (s : State) : Outcome := gated 0x57#8 (sre 6 (.zpx b)) s

/-- 5B: SRE aby (7), R379. -/
def execSreAby (w : Addr) (s : State) : Outcome := gated 0x5B#8 (sre 7 (.aby w)) s

/-- 5F: SRE abx (7), R379. -/
def execSreAbx (w : Addr) (s : State) : Outcome := gated 0x5F#8 (sre 7 (.abx w)) s

/-- RRA (R380): M rotated right, stored, then added to A with the carry of the rotate. -/
def rra (base : Nat) (m : MemOp) (s : State) : Outcome :=
  rmwInstr base m rotateRight (fun r t => addToA r t) s

/-- 63: RRA izx (8), R380. -/
def execRraIzx (b : Byte) (s : State) : Outcome := gated 0x63#8 (rra 8 (.izx b)) s

/-- 67: RRA zp (5), R380. -/
def execRraZp (b : Byte) (s : State) : Outcome := gated 0x67#8 (rra 5 (.zp b)) s

/-- 6F: RRA abs (6), R380. -/
def execRraAbs (w : Addr) (s : State) : Outcome := gated 0x6F#8 (rra 6 (.abs w)) s

/-- 73: RRA izy (8), R380. -/
def execRraIzy (b : Byte) (s : State) : Outcome := gated 0x73#8 (rra 8 (.izy b)) s

/-- 77: RRA zpx (6), R380. -/
def execRraZpx (b : Byte) (s : State) : Outcome := gated 0x77#8 (rra 6 (.zpx b)) s

/-- 7B: RRA aby (7), R380. -/
def execRraAby (w : Addr) (s : State) : Outcome := gated 0x7B#8 (rra 7 (.aby w)) s

/-- 7F: RRA abx (7), R380. -/
def execRraAbx (w : Addr) (s : State) : Outcome := gated 0x7F#8 (rra 7 (.abx w)) s

/-- 0B: ANC imm, R381: always `IllegalOpcode`. -/
def execAnc0B (_ : Byte) (s : State) : Outcome := illegalInstr 0x0B#8 s

/-- 2B: ANC imm, R381: always `IllegalOpcode`. -/
def execAnc2B (_ : Byte) (s : State) : Outcome := illegalInstr 0x2B#8 s

/-- 4B: ALR imm, R381: always `IllegalOpcode`. -/
def execAlrImm (_ : Byte) (s : State) : Outcome := illegalInstr 0x4B#8 s

/-- 6B: ARR imm, R381: always `IllegalOpcode`. -/
def execArrImm (_ : Byte) (s : State) : Outcome := illegalInstr 0x6B#8 s

/-- 8B: ANE imm, R381: always `IllegalOpcode`. -/
def execAneImm (_ : Byte) (s : State) : Outcome := illegalInstr 0x8B#8 s

/-- AB: LXA imm, R381: always `IllegalOpcode`. -/
def execLxaImm (_ : Byte) (s : State) : Outcome := illegalInstr 0xAB#8 s

/-- CB: SBX imm, R381: always `IllegalOpcode`. -/
def execSbxImm (_ : Byte) (s : State) : Outcome := illegalInstr 0xCB#8 s

/-- 93: SHA izy, R381: always `IllegalOpcode`. -/
def execShaIzy (_ : Byte) (s : State) : Outcome := illegalInstr 0x93#8 s

/-- 9F: SHA aby, R381: always `IllegalOpcode`. -/
def execShaAby (_ : Addr) (s : State) : Outcome := illegalInstr 0x9F#8 s

/-- 9C: SHY abx, R381: always `IllegalOpcode`. -/
def execShyAbx (_ : Addr) (s : State) : Outcome := illegalInstr 0x9C#8 s

/-- 9E: SHX aby, R381: always `IllegalOpcode`. -/
def execShxAby (_ : Addr) (s : State) : Outcome := illegalInstr 0x9E#8 s

/-- 9B: TAS aby, R381: always `IllegalOpcode`. -/
def execTasAby (_ : Addr) (s : State) : Outcome := illegalInstr 0x9B#8 s

/-- BB: LAS aby, R381: always `IllegalOpcode`. -/
def execLasAby (_ : Addr) (s : State) : Outcome := illegalInstr 0xBB#8 s

/-- 02: JAM impl, R381: always `IllegalOpcode`. -/
def execJam02 (s : State) : Outcome := illegalInstr 0x02#8 s

/-- 12: JAM impl, R381: always `IllegalOpcode`. -/
def execJam12 (s : State) : Outcome := illegalInstr 0x12#8 s

/-- 22: JAM impl, R381: always `IllegalOpcode`. -/
def execJam22 (s : State) : Outcome := illegalInstr 0x22#8 s

/-- 32: JAM impl, R381: always `IllegalOpcode`. -/
def execJam32 (s : State) : Outcome := illegalInstr 0x32#8 s

/-- 42: JAM impl, R381: always `IllegalOpcode`. -/
def execJam42 (s : State) : Outcome := illegalInstr 0x42#8 s

/-- 52: JAM impl, R381: always `IllegalOpcode`. -/
def execJam52 (s : State) : Outcome := illegalInstr 0x52#8 s

/-- 62: JAM impl, R381: always `IllegalOpcode`. -/
def execJam62 (s : State) : Outcome := illegalInstr 0x62#8 s

/-- 72: JAM impl, R381: always `IllegalOpcode`. -/
def execJam72 (s : State) : Outcome := illegalInstr 0x72#8 s

/-- 92: JAM impl, R381: always `IllegalOpcode`. -/
def execJam92 (s : State) : Outcome := illegalInstr 0x92#8 s

/-- B2: JAM impl, R381: always `IllegalOpcode`. -/
def execJamB2 (s : State) : Outcome := illegalInstr 0xB2#8 s

/-- D2: JAM impl, R381: always `IllegalOpcode`. -/
def execJamD2 (s : State) : Outcome := illegalInstr 0xD2#8 s

/-- F2: JAM impl, R381: always `IllegalOpcode`. -/
def execJamF2 (s : State) : Outcome := illegalInstr 0xF2#8 s

end Sys2Proof.Machine
end

