-- ==== Sys2Proof/Machine/Fetch.lean ====
section
/-! DEFINITION. Instruction fetch and decode (spec/40_step_addressing.md R201, spec/30_encoding.md R150, R161), and placing an instruction's bytes where the fetch finds them (DESIGN CHOICE, safe, log 7). -/

namespace Sys2Proof.Machine

/-- An opcode's row is executable (R161): its instruction is well formed under `UNOFFICIAL_OPCODES`, whatever its operand. -/
def executable (m : Unofficial) (row : Row) : Bool :=
  match row.shape with
  | .op0 i => WellFormed m i
  | .op1 f => WellFormed m (f 0)
  | .op2 f => WellFormed m (f 0)

/-- The fetch of R201: the opcode, the gate of R161 before any operand, then the operand bytes, each an ordinary bus read. -/
def fetch (s : State) : Res Instr :=
  (busRead s.pc s).andThen fun op s1 =>
  match rowOf op with
  | none => .fault (raiseIllegal op s1)
  | some row =>
    if executable s.cfg.unofficial row then
      match row.shape with
      | .op0 i => .ok i s1
      | .op1 f => (busRead (s.pc + 1) s1).andThen fun b s2 => .ok (f b) s2
      | .op2 f =>
        (busRead (s.pc + 1) s1).andThen fun lo s2 =>
        (busRead (s.pc + 2) s2).andThen fun hi s3 => .ok (f (word16 hi lo)) s3
    else .fault (raiseIllegal op s1)

/-- An address whose bytes can be placed: work RAM, PRG-RAM or PRG ROM. -/
def isMemory (addr : Addr) : Bool := decide (addr.toNat < 0x2000) || decide (0x6000 ≤ addr.toNat)

/-- Place a byte at an address of RAM, PRG-RAM or PRG ROM, as a loader does. -/
def placeByte (addr : Addr) (v : Byte) (s : State) : State :=
  let n := addr.toNat
  if n < 0x2000 then { s with ram := Memory.write s.ram (n % 0x800) v }
  else if n ≤ 0x7FFF then { s with prgRam := Memory.write s.prgRam (n - 0x6000) v }
  else { s with prgRom := Memory.write s.prgRom (prgOffset n s) v }

/-- Make the next step a fetch: no fault, no stall, no interrupt pending, and a program counter whose three bytes can be placed (0x0000 where it has none). -/
def fetchReady (s : State) : State :=
  { s with
    fault := none
    stall := 0
    nmiPending := false
    irq := false
    pc := if isMemory s.pc && isMemory (s.pc + 1) && isMemory (s.pc + 2) then s.pc else 0x0000 }

/-- Select `nestest` when the opcode is one of the 80 unofficial ones: under `fault` the fetch stops before their operand bytes (R370, log 7). -/
def selectOpcode (op : Byte) (s : State) : State :=
  match rowOf op with
  | none => s
  | some row =>
    if !executable s.cfg.unofficial row && executable .nestest row then
      { s with cfg := { s.cfg with unofficial := .nestest } }
    else s

/-- Place the three bytes of an instruction at the program counter of a state made ready for the fetch. -/
def placeInstr (b0 b1 b2 : Byte) (s : State) : State :=
  let s1 := fetchReady s
  selectOpcode b0 (placeByte s1.pc b0 (placeByte (s1.pc + 1) b1 (placeByte (s1.pc + 2) b2 s1)))

end Sys2Proof.Machine
end

