-- ==== Sys2Proof/Machine/Render.lean ====
section
/-! DEFINITION. The PPU's render state machine (spec/61_ppu.md R480 to R505): the fetches, the scroll updates, the sprites, the pixels and the tick. -/

namespace Sys2Proof.Machine

/-- Do `f` when `b` holds. -/
def onlyIf (b : Bool) (f : State → State) (s : State) : State := if b then f s else s

/-- Rendering is enabled (R54, R485): show background or show sprites. -/
def rendering (s : State) : Bool := s.ppu.mask.getLsbD 3 || s.ppu.mask.getLsbD 4

/-! The background fetches. -/

/-- R480: the nametable byte's address. -/
def nametableAddr (v : BitVec 15) : Addr := 0x2000#16 ||| (v &&& 0x0FFF#15).setWidth 16

/-- R480: the nametable byte. -/
def fetchNametable (s : State) : State :=
  { s with ppu := { s.ppu with ntByte := ppuRead (nametableAddr s.ppu.v) s } }

/-- R481: the attribute byte's address. -/
def attributeAddr (v : BitVec 15) : Addr :=
  (0x23C0#15 ||| (v &&& 0x0C00#15) ||| ((v >>> 4) &&& 0x38#15) ||| ((v >>> 2) &&& 0x07#15)).setWidth 16

/-- R481: which two bits of the attribute byte select the palette of the quadrant. -/
def attributeShift (v : BitVec 15) : Nat := (((v >>> 4) &&& 0x04#15) ||| (v &&& 0x02#15)).toNat

/-- R481: the attribute bits. -/
def fetchAttribute (s : State) : State :=
  let two := (ppuRead (attributeAddr s.ppu.v) s >>> attributeShift s.ppu.v) &&& 0x03#8
  { s with ppu := { s.ppu with atBits := (two <<< 2).setWidth 4 } }

/-- R482: the address of the low-plane pattern byte. -/
def patternAddr (s : State) : Addr :=
  let base := if s.ppu.ctrl.getLsbD 4 then 0x1000 else 0
  let fineY := (s.ppu.v >>> 12).toNat
  BitVec.ofNat 16 (base + 16 * s.ppu.ntByte.toNat + fineY)

/-- R482: the low pattern byte. -/
def fetchPatternLow (s : State) : State := { s with ppu := { s.ppu with ptLow := ppuRead (patternAddr s) s } }

/-- R482: the high pattern byte. -/
def fetchPatternHigh (s : State) : State := { s with ppu := { s.ppu with ptHigh := ppuRead (patternAddr s + 8) s } }

/-- Append a 4-bit pixel to the right of packed pixels (R483, R492). -/
def appendPixel (acc : BitVec 32) (pixel : BitVec 4) : BitVec 32 := (acc <<< 4) ||| pixel.setWidth 32

/-- R483: the eight pixels of a tile row, leftmost first. -/
def packTile (at4 : BitVec 4) (lo hi : Byte) : BitVec 32 :=
  (List.range 8).foldl
    (fun acc j => appendPixel acc
      (at4 ||| ((BitVec.ofBool (hi.getLsbD (7 - j))).setWidth 4 <<< 1) ||| (BitVec.ofBool (lo.getLsbD (7 - j))).setWidth 4)) 0

/-- R483: the tile store. -/
def storeTile (s : State) : State :=
  { s with ppu := { s.ppu with
      tileData := s.ppu.tileData ||| (packTile s.ppu.atBits s.ppu.ptLow s.ppu.ptHigh).setWidth 64 } }

/-- R485: shift the tile data by one pixel. -/
def shiftTile (s : State) : State := { s with ppu := { s.ppu with tileData := s.ppu.tileData <<< 4 } }

/-- R485: the fetch of this cycle of the eight-cycle cadence; the mapper may observe its access (R558). -/
def fetchStep (s : State) : State :=
  match s.ppu.cycle % 8 with
  | 1 => observePpu (nametableAddr s.ppu.v) (fetchNametable s)
  | 3 => observePpu (attributeAddr s.ppu.v) (fetchAttribute s)
  | 5 => observePpu (patternAddr s) (fetchPatternLow s)
  | 7 => observePpu (patternAddr s + 8) (fetchPatternHigh s)
  | 0 => storeTile s
  | _ => s

/-! The scroll updates of R488, on the loopy registers. -/

/-- `IncrementX()`. -/
def incX (v : BitVec 15) : BitVec 15 :=
  if v &&& 0x001F#15 = 31#15 then (v &&& 0x7FE0#15) ^^^ 0x0400#15 else v + 1

/-- `IncrementY()`. -/
def incY (v : BitVec 15) : BitVec 15 :=
  if v &&& 0x7000#15 ≠ 0x7000#15 then v + 0x1000#15
  else
    let u := v &&& 0x0FFF#15
    let y := (u >>> 5) &&& 0x1F#15
    if y = 29#15 then (u ^^^ 0x0800#15) &&& 0x7C1F#15
    else if y = 31#15 then u &&& 0x7C1F#15
    else (u &&& 0x7C1F#15) ||| ((y + 1) <<< 5)

/-- `CopyX()`. -/
def copyX (v t : BitVec 15) : BitVec 15 := (v &&& 0x7BE0#15) ||| (t &&& 0x041F#15)

/-- `CopyY()`. -/
def copyY (v t : BitVec 15) : BitVec 15 := (v &&& 0x041F#15) ||| (t &&& 0x7BE0#15)

/-- Replace the current loopy register. -/
def setV (f : Ppu → BitVec 15) (s : State) : State := { s with ppu := { s.ppu with v := f s.ppu } }

/-! The sprites. -/

/-- R492: the address of a sprite row's low pattern byte. -/
def spriteAddr (ctrl tile attr : Byte) (row : Nat) : Addr :=
  if ctrl.getLsbD 5 then
    let r := if attr.getLsbD 7 then 15 - row else row
    let t := (tile &&& 0xFE#8).toNat
    let table := (tile &&& 0x01#8).toNat
    if r > 7 then BitVec.ofNat 16 (0x1000 * table + 16 * (t + 1) + (r - 8))
    else BitVec.ofNat 16 (0x1000 * table + 16 * t + r)
  else
    let r := if attr.getLsbD 7 then 7 - row else row
    BitVec.ofNat 16 (0x1000 * (ctrl.getLsbD 3).toNat + 16 * tile.toNat + r)

/-- R492: the eight pixels of a sprite row, column 0 first, flipped left to right by attribute bit 6. -/
def packSprite (attr lo hi : Byte) : BitVec 32 :=
  (List.range 8).foldl
    (fun acc j =>
      let b := if attr.getLsbD 6 then j else 7 - j
      appendPixel acc (((attr &&& 0x03#8) <<< 2).setWidth 4 |||
        ((BitVec.ofBool (hi.getLsbD b)).setWidth 4 <<< 1) ||| (BitVec.ofBool (lo.getLsbD b)).setWidth 4)) 0

/-- `SpritePattern(tile, attr, row)` of R492. -/
def spritePattern (tile attr : Byte) (row : Nat) (s : State) : BitVec 32 :=
  let addr := spriteAddr s.ppu.ctrl tile attr row
  packSprite attr (ppuRead addr s) (ppuRead (addr + 8) s)

/-- The sprite height of R490. -/
def spriteHeight (s : State) : Nat := if s.ppu.ctrl.getLsbD 5 then 16 else 8

/-- A sprite whose y byte is `y` covers the scanline being evaluated (R490). -/
def covers (y : Byte) (s : State) : Bool :=
  decide (y.toNat ≤ s.ppu.scanline) && decide (s.ppu.scanline - y.toNat < spriteHeight s)

/-- The slot that OAM sprite `i` fills (R490). -/
def spriteSlot (i : Nat) (s : State) : SpriteSlot :=
  let y := Memory.read s.oam (4 * i)
  let tile := Memory.read s.oam (4 * i + 1)
  let attr := Memory.read s.oam (4 * i + 2)
  { pattern := spritePattern tile attr (s.ppu.scanline - y.toNat) s
    x := Memory.read s.oam (4 * i + 3)
    priority := attr.getLsbD 5
    index := BitVec.ofNat 6 i }

/-- Sprite `i` fills the slot numbered `k`; the mapper may observe the two pattern accesses (R490, R492, R558), both reads being made before it observes the first (DESIGN CHOICE, safe, log 10). -/
def fillSlot (k i : Nat) (s : State) : State :=
  let addr := spriteAddr s.ppu.ctrl (Memory.read s.oam (4 * i + 1)) (Memory.read s.oam (4 * i + 2))
    (s.ppu.scanline - (Memory.read s.oam (4 * i)).toNat)
  observePpu (addr + 8) (observePpu addr
    { s with ppu := { s.ppu with slots := s.ppu.slots.setIfInBounds k (spriteSlot i s) } })

/-- One round of the loop of R490: the count of covering sprites so far, and the state with the slots filled so far. -/
def evaluateOne (acc : Nat × State) (i : Nat) : Nat × State :=
  let s := acc.2
  if covers (Memory.read s.oam (4 * i)) s then
    (acc.1 + 1, if acc.1 < 8 then fillSlot acc.1 i s else s)
  else acc

/-- `EvaluateSprites()` of R490 and R491. -/
def evaluateSprites (s : State) : State :=
  let r := (List.range 64).foldl evaluateOne (0, s)
  let t := r.2
  { t with ppu := { t.ppu with
      spriteCount := min r.1 8
      overflow := t.ppu.overflow || decide (r.1 > 8) } }

/-- R485: at cycle 257, evaluate on a visible line, no sprite after the pre-render line. -/
def spriteStep (visible : Bool) (s : State) : State :=
  if visible then evaluateSprites s else { s with ppu := { s.ppu with spriteCount := 0 } }

/-! The pixels. -/

/-- A pixel is opaque when its colour bits are not 0 (R496). -/
def opaquePixel (p : BitVec 4) : Bool := decide (p &&& 3#4 ≠ 0)

/-- The background pixel of R495. -/
def backgroundPixel (s : State) : BitVec 4 :=
  if s.ppu.mask.getLsbD 3 then ((s.ppu.tileData >>> 32) >>> (4 * (7 - s.ppu.x.toNat))).setWidth 4 else 0

/-- Slot `k` of R61. -/
def slotAt (k : Nat) (s : State) : SpriteSlot := s.ppu.slots.getD k SpriteSlot.zero

/-- The pixel of slot `k` at column `col`, transparent where the slot does not reach (R493). -/
def slotPixel (k col : Nat) (s : State) : BitVec 4 :=
  let sx := (slotAt k s).x.toNat
  if sx ≤ col ∧ col - sx ≤ 7 then ((slotAt k s).pattern >>> (4 * (7 - (col - sx)))).setWidth 4 else 0

/-- The sprite pixel and its slot at column `col` (R493): the lowest-numbered slot with an opaque pixel there. -/
def spritePixel (col : Nat) (s : State) : BitVec 4 × Nat :=
  if s.ppu.mask.getLsbD 4 then
    match (List.range 8).find? (fun k => decide (k < s.ppu.spriteCount) && opaquePixel (slotPixel k col s)) with
    | some k => (slotPixel k col s, k)
    | none => (0, 0)
  else (0, 0)

/-- `RenderPixel()` of R496, with the sprite-zero hit of R494. -/
def renderPixel (s : State) : State :=
  let col := s.ppu.cycle - 1
  let bg := if col < 8 ∧ s.ppu.mask.getLsbD 1 = false then 0 else backgroundPixel s
  let spr := spritePixel col s
  let sp := if col < 8 ∧ s.ppu.mask.getLsbD 2 = false then 0 else spr.1
  let slot := slotAt spr.2 s
  let b := opaquePixel bg
  let o := opaquePixel sp
  let spriteColour := sp.toNat + 0x10
  let colour :=
    match b, o with
    | false, false => 0
    | false, true => spriteColour
    | true, false => bg.toNat
    | true, true => if slot.priority then bg.toNat else spriteColour
  let hit := b && o && decide (slot.index = 0) && decide (col < 255)
  let value := Memory.read s.palette (palIndex (0x3F00 + colour))
  { s with ppu := { s.ppu with
      sprite0Hit := s.ppu.sprite0Hit || hit
      back := Memory.write s.ppu.back (s.ppu.scanline * 256 + col) (value.setWidth 6) } }

/-! The vertical blank. -/

/-- `SetVblank()` of R497: publish the frame, set the flag, recompute the NMI condition. -/
def setVblank (s : State) : State := nmiChange { s with ppu := { s.ppu with front := s.ppu.back, vblank := true } }

/-- `ClearFlags()` of R498. -/
def clearFlags (s : State) : State :=
  let s1 := nmiChange { s with ppu := { s.ppu with vblank := false } }
  { s1 with ppu := { s1.ppu with sprite0Hit := false, overflow := false } }

/-! The tick. -/

/-- The NMI countdown of R505 (step 1 of R485). -/
def countNmi (s : State) : State :=
  if s.ppu.nmiDelay = 0 then s
  else
    { s with
      nmiPending := s.nmiPending || (decide (s.ppu.nmiDelay = 1) && s.ppu.ctrl.getLsbD 7 && s.ppu.vblank)
      ppu := { s.ppu with nmiDelay := s.ppu.nmiDelay - 1 } }

/-- This tick is the one an odd frame skips (R487). -/
def skipsTick (s : State) : Bool :=
  s.ppu.odd && decide (s.ppu.scanline = 261) && decide (s.ppu.cycle = 339) &&
    (rendering s || !s.cfg.oddSkipNeedsRendering)

/-- The skip of R487: from (261, 339) to (0, 0) of the next frame. -/
def skipToNextFrame (s : State) : State :=
  { s with ppu := { s.ppu with cycle := 0, scanline := 0, frame := s.ppu.frame + 1, odd := false } }

/-- Advance the render position (R486). -/
def advancePosition (s : State) : State :=
  if s.ppu.cycle + 1 > 340 then
    if s.ppu.scanline + 1 > 261 then
      { s with ppu := { s.ppu with cycle := 0, scanline := 0, frame := s.ppu.frame + 1, odd := !s.ppu.odd } }
    else { s with ppu := { s.ppu with cycle := 0, scanline := s.ppu.scanline + 1 } }
  else { s with ppu := { s.ppu with cycle := s.ppu.cycle + 1 } }

/-- What a tick with rendering enabled does at position (l, c) (R485 step 3). -/
def renderAt (c l : Nat) (s : State) : State :=
  let pre := decide (l = 261)
  let visible := decide (l ≤ 239)
  let fetching := (decide (1 ≤ c) && decide (c ≤ 256)) || (decide (321 ≤ c) && decide (c ≤ 336))
  let line := visible || pre
  let s := onlyIf (visible && decide (1 ≤ c) && decide (c ≤ 256)) renderPixel s
  let s := onlyIf (line && fetching) (fun s => fetchStep (shiftTile s)) s
  let s := onlyIf (pre && decide (280 ≤ c) && decide (c ≤ 304)) (setV fun p => copyY p.v p.t) s
  let s := onlyIf (line && fetching && decide (c % 8 = 0)) (setV fun p => incX p.v) s
  let s := onlyIf (line && decide (c = 256)) (setV fun p => incY p.v) s
  let s := onlyIf (line && decide (c = 257)) (setV fun p => copyX p.v p.t) s
  onlyIf (decide (c = 257)) (spriteStep visible) s

/-- Step 3 of R485: act at the new position. -/
def actAtPosition (s : State) : State :=
  let c := s.ppu.cycle
  let l := s.ppu.scanline
  let s := onlyIf (rendering s) (renderAt c l) s
  let s := onlyIf (decide (l = 241) && decide (c = 1)) setVblank s
  onlyIf (decide (l = 261) && decide (c = 1)) clearFlags s

/-- `PpuTick()` of R485. -/
def tick (s : State) : State :=
  let s1 := countNmi s
  if skipsTick s1 then skipToNextFrame s1 else actAtPosition (advancePosition s1)

/-- `n` ticks. -/
def ticks : Nat → State → State
  | 0, s => s
  | n + 1, s => ticks n (tick s)

end Sys2Proof.Machine
end

