-- ==== Sys2Proof/Machine/Execute.lean ====
section
/-! DEFINITION. What the four kinds of step do (spec/40_step_addressing.md R200, R224). -/

namespace Sys2Proof.Machine

/-- The ticks that pay for `n` CPU cycles (R200), three each, which the mapper may observe (R558). -/
def payTicks (n : Nat) (s : State) : State := observeCpu n (ticks (3 * n) s)

/-- A stall step (R200, R224). -/
def stallStep (s : State) : Outcome :=
  .next (payTicks 1 { s with
    stall := s.stall - 1
    cycles := if s.cfg.stallCountsCycles then s.cycles + 1 else s.cycles })

/-- An interrupt-entry step (R200, D10): the entry, then 21 ticks. -/
def entryStep (entry : Res Unit) : Outcome := entry.finish fun _ t => .next (payTicks 7 t)

/-- The cycles an instruction added to the counter (R200). -/
def spent (before after : State) : Nat := (after.cycles - before.cycles).toNat

/-- The ticks after an instruction; a fault ends the step without any (R400). -/
def afterInstr (before : State) (o : Outcome) : Outcome :=
  match o with
  | .next t => .next (payTicks (spent before t) t)
  | .fault e => .fault e
  | .refused r => .refused r

/-- An instruction step (R200, R201): fetch, execute, then the ticks its cycles pay for. -/
def instrStep (s : State) : Outcome := (fetch s).finish fun i s1 => afterInstr s (exec i s1)

/-- A step from a state with no fault, by the priority of R415: stall, NMI, IRQ, instruction. -/
def liveStep (s : State) : Outcome :=
  if 0 < s.stall then stallStep s
  else if s.nmiPending then entryStep (nmiEntry s)
  else if irqInput s && !s.p.i then entryStep (irqEntry s)
  else instrStep s

end Sys2Proof.Machine
end

