-- ==== Sys2Proof/Machine/Step.lean ====
section
/-! DEFINITION. The step of the machine (spec/40_step_addressing.md R200), and the state whose next step runs a given instruction. -/

namespace Sys2Proof.Machine

/-- `Step()` of R200. A faulted state has no step (R400): the answer names its record (DEDUCED, safe, log 5). -/
def step (s : State) : Host.Outcome State Fault Refusal :=
  match s.fault with
  | some r => .fault (.stopped r)
  | none => liveStep s

/-- The state with the instruction of `w` where the next step fetches it (DESIGN CHOICE, safe, log 7): its three bytes, every bit from `nbits` on being 0, at the program counter. -/
def State.withFetchWord (s : State) (nbits w : Nat) : State :=
  let v := w % 2 ^ nbits
  placeInstr (BitVec.ofNat 8 v) (BitVec.ofNat 8 (v / 2 ^ 8)) (BitVec.ofNat 8 (v / 2 ^ 16)) s

end Sys2Proof.Machine
end

