-- ==== Sys2Proof/Machine/Image.lean ====
section
/-! DEFINITION. The cartridge image: loading and serialising (spec/62_mapper_devices.md R556, R580 to R584). -/

namespace Sys2Proof.Machine

/-- What loading an image gives: the cartridge, its PRG ROM, its CHR data (empty for CHR-RAM) and the header's mirroring. -/
structure Loaded where
  cart : Cart
  prgRom : Mem
  chrRom : Mem
  mirror : MirrorMode
  deriving DecidableEq, Repr

/-- The magic of R580. -/
def imageMagic : List Byte := [0x4E, 0x45, 0x53, 0x1A]

/-- The position, counted from `k`, of the first byte in which two strings of one length differ. -/
def firstDifference : Nat → List Byte → List Byte → Option Nat
  | k, x :: xs, y :: ys => if x = y then firstDifference (k + 1) xs ys else some k
  | _, _, _ => none

/-- `prg_count` of R580. -/
def prgCount (image : List Byte) : Nat := (image.getD 4 0).toNat

/-- `chr_count` of R580. -/
def chrCount (image : List Byte) : Nat := (image.getD 5 0).toNat

/-- The trainer-present flag of R580 and R582. -/
def hasTrainer (image : List Byte) : Bool := (image.getD 6 0).getLsbD 2

/-- The bytes of the trainer (R580). -/
def trainerSize (image : List Byte) : Nat := if hasTrainer image then 512 else 0

/-- The battery flag of R582, metadata only (R584). -/
def hasBattery (header : List Byte) : Bool := (header.getD 6 0).getLsbD 1

/-- `mapper_id` of R582. -/
def mapperId (image : List Byte) : Byte := (image.getD 7 0 &&& 0xF0#8) ||| (image.getD 6 0 >>> 4)

/-- The mirroring of R582. -/
def headerMirror (image : List Byte) : MirrorMode :=
  if (image.getD 6 0).getLsbD 3 then .fourScreen
  else if (image.getD 6 0).getLsbD 0 then .vertical
  else .horizontal

/-- The bytes a well-formed image has before any trailing byte (R581). -/
def imageSize (image : List Byte) : Nat :=
  16 + trainerSize image + 16384 * prgCount image + 8192 * chrCount image

/-- The offset a `MalformedHeader` fault reports (R581), or none for a well-formed image. -/
def malformedAt (image : List Byte) : Option Nat :=
  if image.length < 16 then some 0
  else
    match firstDifference 0 (image.take 4) imageMagic with
    | some k => some k
    | none =>
      if prgCount image = 0 then some 4
      else if image.length < imageSize image then some image.length
      else none

/-- The concrete mapper of an id in `MAPPER_SET` (R556); an id of the set that this model has no mapper for is unsupported too (DEDUCED, safe, log 14). -/
def selectMapper (mapperSet : List Byte) (id : Byte) : Option MapperKind :=
  if mapperSet.contains id then mapperOfId id else none

/-- The cartridge of a well-formed image (R582, R584). -/
def cartOf (kind : MapperKind) (image : List Byte) : Loaded :=
  let afterTrainer := image.drop (16 + trainerSize image)
  let prgSize := 16384 * prgCount image
  let chrSize := 8192 * chrCount image
  { cart :=
      { kind := kind
        prgSize := prgSize
        chrSize := if chrCount image = 0 then 8192 else chrSize
        chrIsRam := decide (chrCount image = 0)
        header := image.take 16
        trainer := (image.drop 16).take (trainerSize image) }
    prgRom := Memory.ofBytes 0 (afterTrainer.take prgSize)
    chrRom := Memory.ofBytes 0 ((afterTrainer.drop prgSize).take chrSize)
    mirror := headerMirror image }

/-- Loading an image (R556, R581, R582, R600): a malformed one and an unsupported mapper are load-time faults. -/
def loadImage (mapperSet : List Byte) (image : List Byte) : Except FaultRecord Loaded :=
  match malformedAt image with
  | some k => .error (.malformedHeader k)
  | none =>
    match selectMapper mapperSet (mapperId image) with
    | none => .error (.unsupportedMapper (mapperId image))
    | some kind => .ok (cartOf kind image)

/-- Serialising a cartridge (R583): header, trainer, PRG ROM, and CHR ROM but not CHR-RAM. -/
def serialise (cart : Cart) (prgRom chr : Mem) : List Byte :=
  cart.header ++ cart.trainer ++ Memory.toBytes cart.prgSize prgRom ++
    (if cart.chrIsRam then [] else Memory.toBytes cart.chrSize chr)

end Sys2Proof.Machine
end

