-- ==== Sys2Proof/Machine/HostMoves.lean ====
section
/-! DEFINITION. What the host does between steps (spec/60_exceptions.md R440): power-on and warm reset (spec/70_reset_and_hazards.md R600 to R606), the buttons, the IRQ input, and the reads of the frame and of a snapshot (DESIGN CHOICE, unsafe over several steps, log 6). -/

namespace Sys2Proof.Machine

/-- `MEM_INIT` of R10 and R605: what each memory holds at power-on. -/
structure MemInit where
  ram : Mem
  prgRam : Mem
  chrRam : Mem
  oam : Mem
  palette : Mem
  vram : Mem
  deriving DecidableEq, Repr

/-- The reference `MEM_INIT` of R605: all bytes 0x00. -/
def MemInit.zeros : MemInit := ⟨[], [], [], [], [], []⟩

/-- `PpuReset()` of R603. -/
def ppuReset (s : State) : State :=
  let s1 := nmiChange { s with ppu := { s.ppu with
    cycle := 340
    scanline := 240
    frame := 0
    odd := false
    ctrl := 0x00 } }
  { s1 with ppu := { s1.ppu with mask := 0x00, oamAddr := 0x00 } }

/-- `PC <- Read16(0xFFFC)` of R601. That read goes to the mapper and cannot fault, so the last arm is never taken. -/
def startAtVector (s : State) : State :=
  match read16 resetVector s with
  | .ok target t => { t with pc := target }
  | .fault _ => s

/-- The assignments of R600 after the image is loaded, with the power-on values of R604. -/
def startUp (cfg : Params) (l : Loaded) (init : MemInit) : State :=
  startAtVector (ppuReset
    { a := 0
      x := 0
      y := 0
      sp := 0xFD
      pc := 0
      p := Flags.powerOn
      cycles := cfg.resetCycles
      stall := 0
      nmiPending := false
      irq := false
      fault := none
      ram := init.ram
      prgRam := init.prgRam
      prgRom := l.prgRom
      chr := if l.cart.chrIsRam then init.chrRam else l.chrRom
      oam := init.oam
      palette := init.palette
      vram := init.vram
      ppu := Ppu.powerOn
      map := initialMap l.cart.kind l.cart.prgSize l.cart.chrSize
      mirror := l.mirror
      cart := l.cart
      pads := ⟨0, 0, false, 0, 0⟩
      cfg := cfg })

/-- `PowerOn(image, MEM_INIT)` of R600, with the parameters of R10. A load fault leaves no state to run (R402). -/
def powerOn (cfg : Params) (image : List Byte) (init : MemInit) : Except FaultRecord State :=
  match loadImage cfg.mapperSet image with
  | .error e => .error e
  | .ok l => .ok (startUp cfg l init)

/-- `WarmReset()` of R602; it forces P.B to 0 and P.U to 1 as every reset does (R36, R604; DEDUCED, safe, log 8). -/
def warmReset (s : State) : State :=
  startAtVector (ppuReset { s with
    sp := 0xFD
    p := { s.p with i := true, b := false, u := true }
    stall := 0
    nmiPending := false
    cycles := s.cycles + 7 })

/-- The host sets the buttons (R440, R587). -/
def setButtons (buttons1 buttons2 : Byte) (s : State) : State :=
  { s with pads := { s.pads with buttons1 := buttons1, buttons2 := buttons2 } }

/-- The host drives the IRQ input for the next step start (R42, R440, log 4). -/
def driveIrq (level : Bool) (s : State) : State := { s with irq := level }

/-- The colour index the host reads at a row and a column of the last completed frame (R62, R499). -/
def readFrame (row col : Nat) (s : State) : BitVec 6 := Memory.read s.ppu.front (row * 256 + col)

/-- What a snapshot copies (R440). -/
structure Snapshot where
  a : Byte
  x : Byte
  y : Byte
  sp : Byte
  pc : Addr
  p : Flags
  cycles : BitVec 64
  prgWin : List Nat
  chrWin : List Nat
  palette : List Byte
  vram : List Byte
  deriving DecidableEq, Repr

/-- Reading a snapshot (R440). -/
def snapshot (s : State) : Snapshot where
  a := s.a
  x := s.x
  y := s.y
  sp := s.sp
  pc := s.pc
  p := s.p
  cycles := s.cycles
  prgWin := s.map.prgWin
  chrWin := s.map.chrWin
  palette := Memory.toBytes 32 s.palette
  vram := Memory.toBytes 4096 s.vram

end Sys2Proof.Machine
end

