-- ==== Sys2Proof/Machine/Trace.lean ====
section
/-! DEFINITION. The trace record of a step (spec/60_exceptions.md R441) and the operand syntax of spec/30_encoding.md R164. The text of a whole line is the parameter TRACE_FORMAT, an argument of `traceLine` (log 9). -/

namespace Sys2Proof.Machine

/-- A hexadecimal digit, upper-case. -/
def hexDigit (n : Nat) : Char := ['0', '1', '2', '3', '4', '5', '6', '7', '8', '9', 'A', 'B', 'C', 'D', 'E', 'F'].getD n '0'

/-- `nn` of R164. -/
def hexByte (b : Byte) : String := String.ofList [hexDigit (b.toNat / 16), hexDigit (b.toNat % 16)]

/-- `nnnn` of R164. -/
def hexAddr (w : Addr) : String := hexByte (highByte w) ++ hexByte (lowByte w)

/-- The target of a branch whose opcode lies at `pc` (R220). -/
def branchTarget (pc : Addr) (off : Byte) : Addr := pc + 2 + off.signExtend 16

/-- The operand syntax of R164 for an instruction at `pc` with operand bytes `b1`, `b2`. -/
def operandText (mode : Mode) (pc : Addr) (b1 b2 : Byte) : String :=
  match mode with
  | .impl => ""
  | .acc => "A"
  | .imm => "#$" ++ hexByte b1
  | .zp => "$" ++ hexByte b1
  | .zpx => "$" ++ hexByte b1 ++ ",X"
  | .zpy => "$" ++ hexByte b1 ++ ",Y"
  | .abs => "$" ++ hexAddr (word16 b2 b1)
  | .abx => "$" ++ hexAddr (word16 b2 b1) ++ ",X"
  | .aby => "$" ++ hexAddr (word16 b2 b1) ++ ",Y"
  | .ind => "($" ++ hexAddr (word16 b2 b1) ++ ")"
  | .izx => "($" ++ hexByte b1 ++ ",X)"
  | .izy => "($" ++ hexByte b1 ++ "),Y"
  | .rel => "$" ++ hexAddr (branchTarget pc b1)

/-- The memory operand of a mode that has one (R211 to R216, R218, R219). -/
def memOperand (mode : Mode) (b1 b2 : Byte) : Option MemOp :=
  match mode with
  | .zp => some (.zp b1)
  | .zpx => some (.zpx b1)
  | .zpy => some (.zpy b1)
  | .abs => some (.abs (word16 b2 b1))
  | .abx => some (.abx (word16 b2 b1))
  | .aby => some (.aby (word16 b2 b1))
  | .izx => some (.izx b1)
  | .izy => some (.izy b1)
  | .impl | .acc | .imm | .ind | .rel => none

/-- The value of an access that gave one. -/
def Res.value? {α : Type} (r : Res α) : Option α :=
  match r with
  | .ok v _ => some v
  | .fault _ => none

/-- The effective address of R208 to R220; none for `impl` and `acc`. -/
def effectiveAddr (mode : Mode) (b1 b2 : Byte) (s : State) : Option Addr :=
  match mode with
  | .impl | .acc => none
  | .imm => some (s.pc + 1)
  | .rel => some (branchTarget s.pc b1)
  | .ind => (read16Bug (word16 b2 b1) s).value?
  | .zp | .zpx | .zpy | .abs | .abx | .aby | .izx | .izy =>
    (memOperand mode b1 b2).bind fun m => (resolve m s).value?.map Ea.addr

/-- The register values a trace record prints (R441). -/
structure TraceRegs where
  a : Byte
  x : Byte
  y : Byte
  p : Byte
  sp : Byte
  cycles : BitVec 64
  deriving DecidableEq, Repr

/-- The trace registers of a state. -/
def traceRegs (s : State) : TraceRegs := ⟨s.a, s.x, s.y, s.p.toByte, s.sp, s.cycles⟩

/-- A trace record (R441). -/
structure TraceRecord where
  pc : Addr
  bytes : List Byte
  mnemonic : String
  operand : String
  ea : Option Addr
  before : TraceRegs
  after : TraceRegs
  deriving DecidableEq, Repr

/-- The record of an instruction `i` executed from `s`, its bytes fetched in `s1` and its effect done in `t`. -/
def traceRecord (i : Instr) (s s1 t : State) : Option TraceRecord :=
  (rowOf (opcodeOf i)).map fun row =>
    let b1 := (encode i).getD 1 0
    let b2 := (encode i).getD 2 0
    { pc := s.pc
      bytes := encode i
      mnemonic := row.mnemonic
      operand := operandText row.mode s.pc b1 b2
      ea := effectiveAddr row.mode b1 b2 s1
      before := traceRegs s
      after := traceRegs t }

/-- The trace record of a step (R441): only a step that executes an instruction to its end has one. -/
def traceStep (s : State) : Option TraceRecord :=
  if s.fault.isSome || decide (0 < s.stall) || s.nmiPending || (irqInput s && !s.p.i) then none
  else
    match fetch s with
    | .fault _ => none
    | .ok i s1 =>
      match exec i s1 with
      | .next t => traceRecord i s s1 t
      | .fault _ => none
      | .refused _ => none

end Sys2Proof.Machine
end

