-- ==== Sys2Proof/Machine/Run.lean ====
section
/-! DEFINITION. Runs (spec/60_exceptions.md R441, R446): the end of a run at the launch parameters END_PC and END_STEPS, and the trace of a run. -/

namespace Sys2Proof.Machine

/-- The byte a CPU read of an address would return, without performing the read; none where it would fault. -/
def peek (addr : Addr) (s : State) : Option Byte := (busRead addr s).value?

/-- The step boundary R446 gives for `END_PC`: no fault, no stall, and the PC at a jump to itself. -/
def atEnd (endPc : Addr) (s : State) : Bool :=
  s.fault.isNone && decide (s.stall = 0) && decide (s.pc = endPc) && decide (peek endPc s = some 0x4C#8) &&
    decide (peek (endPc + 1) s = some (lowByte endPc)) && decide (peek (endPc + 2) s = some (highByte endPc))

/-- The launch parameters `END_PC` and `END_STEPS` of R10: either, both or, by default, none (DEDUCED, safe, log 15). -/
structure RunEnd where
  endPc : Option Addr := none
  endSteps : Option Nat := none
  deriving DecidableEq, Repr

/-- The boundary after `k` steps, in state `s`, meets the end condition (R446): the jump at `END_PC`, or the step budget `END_STEPS`. A faulted state never does. -/
def endMet (e : RunEnd) (k : Nat) (s : State) : Bool :=
  (match e.endPc with
    | some endPc => atEnd endPc s
    | none => false) ||
  (match e.endSteps with
    | some n => s.fault.isNone && decide (k = n)
    | none => false)

/-- Step on from the boundary after `k` steps until the first one that meets the end condition (R446), at most `fuel` steps: the number of steps and the state at the end. None where the run faults before, or the fuel ends. -/
def runUntil (e : RunEnd) : Nat → Nat → State → Option (Nat × State)
  | 0, k, s => if endMet e k s then some (k, s) else none
  | fuel + 1, k, s =>
    if endMet e k s then some (k, s)
    else
      match step s with
      | .next t => runUntil e fuel (k + 1) t
      | .fault _ => none
      | .refused _ => none

/-- The trace line of a step (R441), its text by the parameter `TRACE_FORMAT` of R10. -/
def traceLine (format : TraceRecord → String) (s : State) : Option String := (traceStep s).map format

/-- The trace lines of the first `n` steps of a run: one for each executed instruction (R441). -/
def traceLines (format : TraceRecord → String) : Nat → State → List String
  | 0, _ => []
  | n + 1, s =>
    (traceLine format s).toList ++
      match step s with
      | .next t => traceLines format n t
      | .fault _ => []
      | .refused _ => []

end Sys2Proof.Machine
end

