-- ==== Sys2Proof/Safety.lean ====
section
/-! DEFINITION. What claims about this machine are stated in: when a run is safe and when it has ended (spec/60_exceptions.md R400, R446), closed forms of the effective addresses and of the bus (spec/40_step_addressing.md, spec/20_memory.md), the classes of instructions, the cells of memory, and the invariants. -/

namespace Sys2Proof

/-- The mnemonics of R156: the 56 documented ones, the unofficial ones of R371 to R380 and the illegal ones of R381. -/
inductive Mnemonic where
  | lda | ldx | ldy | sta | stx | sty | tax | tay | txa | tya | tsx | txs | pha
  | php | pla | plp | adc | sbc | and | ora | eor | bit | cmp | cpx | cpy | inc
  | dec | inx | iny | dex | dey | asl | lsr | rol | ror | bpl | bmi | bvc | bvs
  | bcc | bcs | bne | beq | jmp | jsr | rts | rti | brk | clc | sec | cli | sei
  | cld | sed | clv | nop | lax | sax | dcp | isb | slo | rla | sre | rra | anc
  | alr | arr | ane | lxa | sbx | sha | shy | shx | tas | las | jam
  deriving DecidableEq, Repr

/-- The mnemonic of an instruction (R156). -/
def Instr.mn : Instr → Mnemonic
  | .ldaIzx _ | .ldaZp _ | .ldaImm _ | .ldaAbs _ | .ldaIzy _ | .ldaZpx _ | .ldaAby _ | .ldaAbx _ => .lda
  | .ldxImm _ | .ldxZp _ | .ldxAbs _ | .ldxZpy _ | .ldxAby _ => .ldx
  | .ldyImm _ | .ldyZp _ | .ldyAbs _ | .ldyZpx _ | .ldyAbx _ => .ldy
  | .staIzx _ | .staZp _ | .staAbs _ | .staIzy _ | .staZpx _ | .staAby _ | .staAbx _ => .sta
  | .stxZp _ | .stxAbs _ | .stxZpy _ => .stx
  | .styZp _ | .styAbs _ | .styZpx _ => .sty
  | .tax => .tax
  | .tay => .tay
  | .txa => .txa
  | .tya => .tya
  | .tsx => .tsx
  | .txs => .txs
  | .pha => .pha
  | .php => .php
  | .pla => .pla
  | .plp => .plp
  | .adcIzx _ | .adcZp _ | .adcImm _ | .adcAbs _ | .adcIzy _ | .adcZpx _ | .adcAby _ | .adcAbx _ => .adc
  | .sbcIzx _ | .sbcZp _ | .sbcImm _ | .sbcAbs _ | .sbcIzy _ | .sbcZpx _ | .sbcAby _ | .sbcAbx _
  | .sbcImmEB _ => .sbc
  | .andIzx _ | .andZp _ | .andImm _ | .andAbs _ | .andIzy _ | .andZpx _ | .andAby _ | .andAbx _ => .and
  | .oraIzx _ | .oraZp _ | .oraImm _ | .oraAbs _ | .oraIzy _ | .oraZpx _ | .oraAby _ | .oraAbx _ => .ora
  | .eorIzx _ | .eorZp _ | .eorImm _ | .eorAbs _ | .eorIzy _ | .eorZpx _ | .eorAby _ | .eorAbx _ => .eor
  | .bitZp _ | .bitAbs _ => .bit
  | .cmpIzx _ | .cmpZp _ | .cmpImm _ | .cmpAbs _ | .cmpIzy _ | .cmpZpx _ | .cmpAby _ | .cmpAbx _ => .cmp
  | .cpxImm _ | .cpxZp _ | .cpxAbs _ => .cpx
  | .cpyImm _ | .cpyZp _ | .cpyAbs _ => .cpy
  | .incZp _ | .incAbs _ | .incZpx _ | .incAbx _ => .inc
  | .decZp _ | .decAbs _ | .decZpx _ | .decAbx _ => .dec
  | .inx => .inx
  | .iny => .iny
  | .dex => .dex
  | .dey => .dey
  | .aslZp _ | .aslAcc | .aslAbs _ | .aslZpx _ | .aslAbx _ => .asl
  | .lsrZp _ | .lsrAcc | .lsrAbs _ | .lsrZpx _ | .lsrAbx _ => .lsr
  | .rolZp _ | .rolAcc | .rolAbs _ | .rolZpx _ | .rolAbx _ => .rol
  | .rorZp _ | .rorAcc | .rorAbs _ | .rorZpx _ | .rorAbx _ => .ror
  | .bpl _ => .bpl
  | .bmi _ => .bmi
  | .bvc _ => .bvc
  | .bvs _ => .bvs
  | .bcc _ => .bcc
  | .bcs _ => .bcs
  | .bne _ => .bne
  | .beq _ => .beq
  | .jmpAbs _ | .jmpInd _ => .jmp
  | .jsrAbs _ => .jsr
  | .rts => .rts
  | .rti => .rti
  | .brk => .brk
  | .clc => .clc
  | .sec => .sec
  | .cli => .cli
  | .sei => .sei
  | .cld => .cld
  | .sed => .sed
  | .clv => .clv
  | .nop | .nop04 _ | .nop0C _ | .nop14 _ | .nop1A | .nop1C _ | .nop34 _ | .nop3A | .nop3C _ | .nop44 _
  | .nop54 _ | .nop5A | .nop5C _ | .nop64 _ | .nop74 _ | .nop7A | .nop7C _ | .nop80 _ | .nop82 _ | .nop89 _
  | .nopC2 _ | .nopD4 _ | .nopDA | .nopDC _ | .nopE2 _ | .nopF4 _ | .nopFA | .nopFC _ => .nop
  | .laxIzx _ | .laxZp _ | .laxAbs _ | .laxIzy _ | .laxZpy _ | .laxAby _ => .lax
  | .saxIzx _ | .saxZp _ | .saxAbs _ | .saxZpy _ => .sax
  | .dcpIzx _ | .dcpZp _ | .dcpAbs _ | .dcpIzy _ | .dcpZpx _ | .dcpAby _ | .dcpAbx _ => .dcp
  | .isbIzx _ | .isbZp _ | .isbAbs _ | .isbIzy _ | .isbZpx _ | .isbAby _ | .isbAbx _ => .isb
  | .sloIzx _ | .sloZp _ | .sloAbs _ | .sloIzy _ | .sloZpx _ | .sloAby _ | .sloAbx _ => .slo
  | .rlaIzx _ | .rlaZp _ | .rlaAbs _ | .rlaIzy _ | .rlaZpx _ | .rlaAby _ | .rlaAbx _ => .rla
  | .sreIzx _ | .sreZp _ | .sreAbs _ | .sreIzy _ | .sreZpx _ | .sreAby _ | .sreAbx _ => .sre
  | .rraIzx _ | .rraZp _ | .rraAbs _ | .rraIzy _ | .rraZpx _ | .rraAby _ | .rraAbx _ => .rra
  | .anc0B _ | .anc2B _ => .anc
  | .alrImm _ => .alr
  | .arrImm _ => .arr
  | .aneImm _ => .ane
  | .lxaImm _ => .lxa
  | .sbxImm _ => .sbx
  | .shaIzy _ | .shaAby _ => .sha
  | .shyAbx _ => .shy
  | .shxAby _ => .shx
  | .tasAby _ => .tas
  | .lasAby _ => .las
  | .jam02 | .jam12 | .jam22 | .jam32 | .jam42 | .jam52 | .jam62 | .jam72 | .jam92 | .jamB2 | .jamD2 | .jamF2 => .jam

/-- The addressing mode of an instruction (R156). -/
def Instr.mode : Instr → Mode
  | .ldaIzx _ | .staIzx _ | .adcIzx _ | .sbcIzx _ | .andIzx _ | .oraIzx _ | .eorIzx _ | .cmpIzx _ | .laxIzx _
  | .saxIzx _ | .dcpIzx _ | .isbIzx _ | .sloIzx _ | .rlaIzx _ | .sreIzx _ | .rraIzx _ => .izx
  | .ldaZp _ | .ldxZp _ | .ldyZp _ | .staZp _ | .stxZp _ | .styZp _ | .adcZp _ | .sbcZp _ | .andZp _
  | .oraZp _ | .eorZp _ | .bitZp _ | .cmpZp _ | .cpxZp _ | .cpyZp _ | .incZp _ | .decZp _ | .aslZp _
  | .lsrZp _ | .rolZp _ | .rorZp _ | .nop04 _ | .nop44 _ | .nop64 _ | .laxZp _ | .saxZp _ | .dcpZp _
  | .isbZp _ | .sloZp _ | .rlaZp _ | .sreZp _ | .rraZp _ => .zp
  | .ldaImm _ | .ldxImm _ | .ldyImm _ | .adcImm _ | .sbcImm _ | .andImm _ | .oraImm _ | .eorImm _ | .cmpImm _
  | .cpxImm _ | .cpyImm _ | .nop80 _ | .nop82 _ | .nop89 _ | .nopC2 _ | .nopE2 _ | .sbcImmEB _ | .anc0B _
  | .anc2B _ | .alrImm _ | .arrImm _ | .aneImm _ | .lxaImm _ | .sbxImm _ => .imm
  | .ldaAbs _ | .ldxAbs _ | .ldyAbs _ | .staAbs _ | .stxAbs _ | .styAbs _ | .adcAbs _ | .sbcAbs _ | .andAbs _
  | .oraAbs _ | .eorAbs _ | .bitAbs _ | .cmpAbs _ | .cpxAbs _ | .cpyAbs _ | .incAbs _ | .decAbs _ | .aslAbs _
  | .lsrAbs _ | .rolAbs _ | .rorAbs _ | .jmpAbs _ | .jsrAbs _ | .nop0C _ | .laxAbs _ | .saxAbs _ | .dcpAbs _
  | .isbAbs _ | .sloAbs _ | .rlaAbs _ | .sreAbs _ | .rraAbs _ => .abs
  | .ldaIzy _ | .staIzy _ | .adcIzy _ | .sbcIzy _ | .andIzy _ | .oraIzy _ | .eorIzy _ | .cmpIzy _ | .laxIzy _
  | .dcpIzy _ | .isbIzy _ | .sloIzy _ | .rlaIzy _ | .sreIzy _ | .rraIzy _ | .shaIzy _ => .izy
  | .ldaZpx _ | .ldyZpx _ | .staZpx _ | .styZpx _ | .adcZpx _ | .sbcZpx _ | .andZpx _ | .oraZpx _ | .eorZpx _
  | .cmpZpx _ | .incZpx _ | .decZpx _ | .aslZpx _ | .lsrZpx _ | .rolZpx _ | .rorZpx _ | .nop14 _ | .nop34 _
  | .nop54 _ | .nop74 _ | .nopD4 _ | .nopF4 _ | .dcpZpx _ | .isbZpx _ | .sloZpx _ | .rlaZpx _ | .sreZpx _
  | .rraZpx _ => .zpx
  | .ldaAby _ | .ldxAby _ | .staAby _ | .adcAby _ | .sbcAby _ | .andAby _ | .oraAby _ | .eorAby _ | .cmpAby _
  | .laxAby _ | .dcpAby _ | .isbAby _ | .sloAby _ | .rlaAby _ | .sreAby _ | .rraAby _ | .shaAby _ | .shxAby _
  | .tasAby _ | .lasAby _ => .aby
  | .ldaAbx _ | .ldyAbx _ | .staAbx _ | .adcAbx _ | .sbcAbx _ | .andAbx _ | .oraAbx _ | .eorAbx _ | .cmpAbx _
  | .incAbx _ | .decAbx _ | .aslAbx _ | .lsrAbx _ | .rolAbx _ | .rorAbx _ | .nop1C _ | .nop3C _ | .nop5C _
  | .nop7C _ | .nopDC _ | .nopFC _ | .dcpAbx _ | .isbAbx _ | .sloAbx _ | .rlaAbx _ | .sreAbx _ | .rraAbx _
  | .shyAbx _ => .abx
  | .ldxZpy _ | .stxZpy _ | .laxZpy _ | .saxZpy _ => .zpy
  | .tax | .tay | .txa | .tya | .tsx | .txs | .pha | .php | .pla | .plp | .inx | .iny | .dex | .dey | .rts
  | .rti | .brk | .clc | .sec | .cli | .sei | .cld | .sed | .clv | .nop | .nop1A | .nop3A | .nop5A | .nop7A
  | .nopDA | .nopFA | .jam02 | .jam12 | .jam22 | .jam32 | .jam42 | .jam52 | .jam62 | .jam72 | .jam92 | .jamB2
  | .jamD2 | .jamF2 => .impl
  | .aslAcc | .lsrAcc | .rolAcc | .rorAcc => .acc
  | .bpl _ | .bmi _ | .bvc _ | .bvs _ | .bcc _ | .bcs _ | .bne _ | .beq _ => .rel
  | .jmpInd _ => .ind
/-- The read instructions of R221. -/
def Mnemonic.reads : Mnemonic → Bool
  | .lda | .ldx | .ldy | .adc | .sbc | .and | .ora | .eor | .cmp | .cpx | .cpy | .bit | .lax | .nop => true
  | _ => false

/-- The write instructions of R221. -/
def Mnemonic.writes : Mnemonic → Bool
  | .sta | .stx | .sty | .sax => true
  | _ => false

/-- The read-modify-write instructions of R221. -/
def Mnemonic.modifies : Mnemonic → Bool
  | .asl | .lsr | .rol | .ror | .inc | .dec | .dcp | .isb | .slo | .rla | .sre | .rra => true
  | _ => false

/-- The instructions that write A; a shift or rotate does so in the accumulator mode only (R209). -/
def Instr.writesA (i : Instr) : Bool :=
  match i.mn with
  | .lda | .txa | .tya | .pla | .adc | .sbc | .and | .ora | .eor | .lax | .isb | .slo | .rla | .sre | .rra => true
  | .asl | .lsr | .rol | .ror => decide (i.mode = .acc)
  | _ => false

/-- The instructions that write X. -/
def Instr.writesX (i : Instr) : Bool :=
  match i.mn with
  | .ldx | .tax | .tsx | .inx | .dex | .lax => true
  | _ => false

/-- The instructions that write Y. -/
def Instr.writesY (i : Instr) : Bool :=
  match i.mn with
  | .ldy | .tay | .iny | .dey => true
  | _ => false

/-- The instructions that write SP (R31). -/
def Instr.writesSP (i : Instr) : Bool :=
  match i.mn with
  | .txs | .pha | .php | .pla | .plp | .jsr | .rts | .rti | .brk => true
  | _ => false

/-- The instructions that write C (R34, R38). -/
def Instr.writesC (i : Instr) : Bool :=
  match i.mn with
  | .adc | .sbc | .asl | .lsr | .rol | .ror | .cmp | .cpx | .cpy | .clc | .sec | .plp | .rti => true
  | .dcp | .isb | .slo | .rla | .sre | .rra => true
  | _ => false

/-- The instructions that write Z (R35, R38). -/
def Instr.writesZ (i : Instr) : Bool :=
  match i.mn with
  | .adc | .sbc | .and | .ora | .eor | .lda | .ldx | .ldy | .tax | .tay | .txa | .tya | .tsx | .pla => true
  | .inc | .dec | .inx | .iny | .dex | .dey | .asl | .lsr | .rol | .ror | .cmp | .cpx | .cpy | .bit | .plp | .rti => true
  | .lax | .dcp | .isb | .slo | .rla | .sre | .rra => true
  | _ => false

/-- The instructions that write N (R35, R38): those that write Z. -/
def Instr.writesN (i : Instr) : Bool := i.writesZ

/-- The instructions that write V (R35, R38). -/
def Instr.writesV (i : Instr) : Bool :=
  match i.mn with
  | .adc | .sbc | .bit | .clv | .plp | .rti | .isb | .rra => true
  | _ => false

/-- The instructions that write I (R36, R38). -/
def Instr.writesI (i : Instr) : Bool :=
  match i.mn with
  | .cli | .sei | .plp | .rti | .brk => true
  | _ => false

/-- The instructions that write D (R36, R38). -/
def Instr.writesD (i : Instr) : Bool :=
  match i.mn with
  | .cld | .sed | .plp | .rti => true
  | _ => false

/-- The instructions that force B to 0 and U to 1 (R36). -/
def Instr.forcesBU (i : Instr) : Bool :=
  match i.mn with
  | .plp | .rti => true
  | _ => false

end Sys2Proof

namespace Sys2Proof.Machine

/-! Runs. -/

/-- A state that has a step (R200): no fault. -/
def State.running (s : State) : Bool := s.fault.isNone

/-- `n` steps from `s` all answer a next state. -/
def State.safeFor (n : Nat) (s : State) : Prop := ∃ t, Sys2Proof.core.run n s = .next t

/-- The run from `s` ends at its `k`-th step boundary, in `t` (R446): the first boundary that meets the end condition. -/
def EndsAt (e : RunEnd) (s : State) (k : Nat) (t : State) : Prop :=
  Sys2Proof.core.run k s = .next t ∧ endMet e k t = true ∧
    ∀ j, j < k → ∀ u, Sys2Proof.core.run j s = .next u → endMet e j u = false

/-- The next step is an instruction step (R200, R415): no fault, stall, NMI or unmasked IRQ. -/
def State.instrReady (s : State) : Bool :=
  s.fault.isNone && decide (s.stall = 0) && !s.nmiPending && !(irqInput s && !s.p.i)

/-! The bus in closed form (R101, R102). -/

/-- The addresses outside all defined ranges (R105). -/
def unmapped (addr : Addr) : Bool := decide (0x4021 ≤ addr.toNat) && decide (addr.toNat ≤ 0x5FFF)

/-- The PPU register window (R104). -/
def inPpuWindow (addr : Addr) : Bool := decide (0x2000 ≤ addr.toNat) && decide (addr.toNat ≤ 0x3FFF)

/-- The value a CPU read of a mapped address returns (R101). -/
def readValue (addr : Addr) (s : State) : Byte :=
  let n := addr.toNat
  if n ≤ 0x1FFF then Memory.read s.ram (n % 0x800)
  else if inPpuWindow addr then (ppuRegRead (n % 8) s).1
  else if n = 0x4016 then (readPad1 s).1
  else if n = 0x4017 then (readPad2 s).1
  else if n ≤ 0x4020 then s.cfg.openBus
  else mapperCpuRead n s

/-- What a CPU read of a mapped address leaves (R109): only the PPU registers and the controllers have read side effects. -/
def readEffect (addr : Addr) (s : State) : State :=
  let n := addr.toNat
  if inPpuWindow addr then (ppuRegRead (n % 8) s).2
  else if n = 0x4016 then (readPad1 s).2
  else if n = 0x4017 then (readPad2 s).2
  else s

/-- An OAM DMA copies one byte (R473). -/
def dmaByte (page : Byte) (s : State) (i : Nat) : State :=
  let source := word16 page (BitVec.ofNat 8 i)
  writeOamData (readValue source s) (readEffect source s)

/-- What an OAM DMA from a page with no unmapped address leaves (R473). -/
def dmaEffect (page : Byte) (s : State) : State :=
  let t := (List.range 256).foldl (dmaByte page) s
  { t with stall := s.stall + 513 + s.cycles.toNat % 2 }

/-- A DMA source page holds an unmapped address (R474): pages 0x40 to 0x5F. -/
def dmaFaults (page : Byte) : Bool := decide (0x40 ≤ page.toNat) && decide (page.toNat ≤ 0x5F)

/-- The fault of an OAM DMA from a page that holds an unmapped address (R473, R474): page 0x40 copies its 33 mapped bytes first, pages 0x41 to 0x5F none; there is no stall. -/
def dmaStop (page : Byte) (s : State) : Fault :=
  let n := if page.toNat = 0x40 then 33 else 0
  raiseUnmapped (word16 page (BitVec.ofNat 8 n)) .read ((List.range n).foldl (dmaByte page) s)

/-- A CPU write faults (R102, R473): an unmapped address, or an OAM DMA from a page that holds one. -/
def writeFaults (addr : Addr) (v : Byte) : Bool := unmapped addr || (decide (addr.toNat = 0x4014) && dmaFaults v)

/-- What a CPU write that does not fault leaves (R102). -/
def writeEffect (addr : Addr) (v : Byte) (s : State) : State :=
  let n := addr.toNat
  if n ≤ 0x1FFF then { s with ram := Memory.write s.ram (n % 0x800) v }
  else if inPpuWindow addr then ppuRegWrite (n % 8) v s
  else if n = 0x4014 then dmaEffect v s
  else if n = 0x4016 then strobePads v s
  else if n ≤ 0x4020 then s
  else mapperCpuWrite n v s

/-- Reading bytes one after the other from an address on, wrapping at 2^16 (R107, R150). -/
def readBytes : Nat → Addr → State → Res (List Byte)
  | 0, _, s => .ok [] s
  | n + 1, addr, s =>
    (busRead addr s).andThen fun b s1 => (readBytes n (addr + 1) s1).andThen fun bs s2 => .ok (b :: bs) s2

/-- What `Push(v)` leaves (R15): the byte at `0x0100 | SP`, SP one less. -/
def pushed (v : Byte) (s : State) : State :=
  { s with ram := Memory.write s.ram (0x100 + s.sp.toNat) v, sp := s.sp - 1 }

/-- The byte `k` above SP in the stack page (R15, R31). -/
def stackByte (s : State) (k : Nat) : Byte := Memory.read s.ram (0x100 + (s.sp.toNat + k) % 256)

/-- The 16-bit value of two consecutive addresses of the mapper's range, low byte first (R106, R410). -/
def vectorAt (n : Nat) (s : State) : Addr := word16 (mapperCpuRead (n + 1) s) (mapperCpuRead n s)

/-- What taking an interrupt leaves (R333, R413, R414): return address and status pushed, I set, PC from the vector. -/
def interrupted (ret : Addr) (status : Byte) (vector : Nat) (s : State) : State :=
  let t := pushed status (pushed (lowByte ret) (pushed (highByte ret) s))
  { t with p := { s.p with i := true }, pc := vectorAt vector s }

/-! Effective addresses in closed form (R205 to R219). -/

/-- `Read16ZP` of R206 over work RAM: the low byte at `p`, the high byte at `(p + 1) mod 256`. -/
def pointerAt (p : Nat) (s : State) : Addr :=
  BitVec.ofNat 16 ((Memory.read s.ram p).toNat + 256 * (Memory.read s.ram ((p + 1) % 256)).toNat)

/-- The effective address of R211 to R216, R218 and R219. -/
def eaOf (m : MemOp) (s : State) : Addr :=
  match m with
  | .zp b => BitVec.ofNat 16 b.toNat
  | .zpx b => BitVec.ofNat 16 ((b.toNat + s.x.toNat) % 256)
  | .zpy b => BitVec.ofNat 16 ((b.toNat + s.y.toNat) % 256)
  | .abs w => w
  | .abx w => BitVec.ofNat 16 (w.toNat + s.x.toNat)
  | .aby w => BitVec.ofNat 16 (w.toNat + s.y.toNat)
  | .izx b => pointerAt ((b.toNat + s.x.toNat) % 256) s
  | .izy b => BitVec.ofNat 16 ((pointerAt b.toNat s).toNat + s.y.toNat)

/-- `crossed` of R211 to R219: the indexed address lies in another page than its base (R18). -/
def crossedOf (m : MemOp) (s : State) : Bool :=
  match m with
  | .abx w | .aby w => decide (w.toNat / 256 ≠ (eaOf m s).toNat / 256)
  | .izy b => decide ((pointerAt b.toNat s).toNat / 256 ≠ (eaOf m s).toNat / 256)
  | .zp _ | .zpx _ | .zpy _ | .abs _ | .izx _ => false

/-- The operand of a read instruction is an immediate or lies at a mapped address. -/
def ReadOp.mapped (o : ReadOp) (s : State) : Bool :=
  match o with
  | .imm _ => true
  | .mem m => !unmapped (eaOf m s)

/-- The operand value M of a read instruction (R221). -/
def ReadOp.value (o : ReadOp) (s : State) : Byte :=
  match o with
  | .imm b => b
  | .mem m => readValue (eaOf m s) s

/-- The state after the PC advance and the cycle charge of a read instruction (R201 to R203). -/
def ReadOp.charged (base : Nat) (o : ReadOp) (s : State) : State :=
  match o with
  | .imm _ => advance 2 base s
  | .mem m => advance m.length (base + (crossedOf m s).toNat) s

/-- The state after the operand of a read instruction is read. -/
def ReadOp.after (base : Nat) (o : ReadOp) (s : State) : State :=
  match o with
  | .imm _ => o.charged base s
  | .mem m => readEffect (eaOf m s) (o.charged base s)

/-- The address of the operand of a read instruction (R210: PC + 1 for an immediate). -/
def ReadOp.address (o : ReadOp) (s : State) : Addr :=
  match o with
  | .imm _ => s.pc + 1
  | .mem m => eaOf m s

/-- The memory operand of an instruction whose mode has one. -/
def memOpOf (i : Instr) : Option MemOp := memOperand i.mode ((encode i).getD 1 0) ((encode i).getD 2 0)

/-! What an instruction does, by the class of R221. `legal` is the condition under which its opcode is executable (R161): no condition for a documented opcode, `unofficialOn` for an unofficial one. -/

/-- The condition of a documented opcode: none. -/
def documented (_ : State) : Bool := true

/-- The condition of an unofficial opcode (R370). -/
def unofficialOn (s : State) : Bool := decide (s.cfg.unofficial = .nestest)

/-- `i`, with opcode byte `op` and `base` cycles, has no memory operand and the given effect (R208, R209). -/
def ImpliedAs (legal : State → Bool) (effect : State → State) (i : Instr) (op : Byte) (base : Nat) : Prop :=
  opcodeOf i = op ∧ ∀ s, legal s = true → exec i s = .next (effect (advance 1 base s))

/-- `i`, with opcode byte `op` and `base` cycles, reads its operand and then has the given effect; an unmapped operand faults at the read, after the PC advance and the cycle charge (R201, R203, R221, R223). -/
def ReadsAs (legal : State → Bool) (effect : Byte → State → State) (i : Instr) (op : Byte) (base : Nat) (o : ReadOp) :
    Prop :=
  opcodeOf i = op ∧ ∀ s, legal s = true →
    (o.mapped s = true → exec i s = .next (effect (o.value s) (o.after base s))) ∧
    (o.mapped s = false → exec i s = .fault (raiseUnmapped (o.address s) .read (o.charged base s)))

/-- `i`, with opcode byte `op` and `base` cycles, writes a value to its effective address; an unmapped address faults at the write, and a write to 0x4014 at the DMA read that faults, both after the PC advance and the cycle charge (R201, R203, R221, R223, R474). -/
def WritesAs (legal : State → Bool) (value : State → Byte) (i : Instr) (op : Byte) (base : Nat) (m : MemOp) : Prop :=
  opcodeOf i = op ∧ ∀ s, legal s = true →
    (writeFaults (eaOf m s) (value s) = false →
      exec i s = .next (writeEffect (eaOf m s) (value s) (advance m.length base s))) ∧
    (unmapped (eaOf m s) = true → exec i s = .fault (raiseUnmapped (eaOf m s) .write (advance m.length base s))) ∧
    ((eaOf m s).toNat = 0x4014 → dmaFaults (value s) = true →
      exec i s = .fault (dmaStop (value s) (advance m.length base s)))

/-- `i`, with opcode byte `op` and `base` cycles, reads its operand M, writes `result M C` back to the same address and then has the given effect on what is left; `carry M C` is the carry before the write; an unmapped address faults at the read, and a write to 0x4014 at the DMA read that faults, with the carry written, both after the PC advance and the cycle charge (R201, R203, R221, R223, R474). -/
def ModifiesAs (legal : State → Bool) (result : Byte → Bool → Byte) (carry : Byte → Bool → Bool)
    (effect : Byte → State → State) (i : Instr) (op : Byte) (base : Nat) (m : MemOp) : Prop :=
  opcodeOf i = op ∧ ∀ s, legal s = true →
    let addr := eaOf m s
    let value := readValue addr s
    let r := result value s.p.c
    let t := readEffect addr (advance m.length base s)
    (unmapped addr = false → writeFaults addr r = false →
      exec i s = .next (effect r (writeEffect addr r { t with p := { t.p with c := carry value s.p.c } }))) ∧
    (unmapped addr = true → exec i s = .fault (raiseUnmapped addr .read (advance m.length base s))) ∧
    (addr.toNat = 0x4014 → dmaFaults r = true →
      exec i s = .fault (dmaStop r { t with p := { t.p with c := carry value s.p.c } }))

/-- `i`, with opcode byte `op`, is the branch on `cond` (R204, R220, R320): 2 cycles, 1 more if taken, 1 more again to another page. -/
def BranchesAs (cond : Flags → Bool) (i : Byte → Instr) (op : Byte) : Prop :=
  ∀ b s, opcodeOf (i b) = op ∧
    let next := BitVec.ofNat 16 (s.pc.toNat + 2)
    let target := BitVec.ofInt 16 (s.pc.toNat + 2 + b.toInt)
    let extra := if next.toNat / 256 = target.toNat / 256 then 1 else 2
    exec (i b) s = .next (if cond s.p then { s with pc := target, cycles := s.cycles + 2 + extra }
      else { s with pc := next, cycles := s.cycles + 2 })

/-- `SetZN(v)` of R16 on a state. -/
def withZN (v : Byte) (t : State) : State := { t with p := { t.p with z := decide (v = 0), n := v.getLsbD 7 } }

/-- `A <- A + M + C` of R270 and R271, with its flags: C is the unsigned overflow, V the signed one. -/
def sumEffect (m : Byte) (t : State) : State :=
  let sum := t.a.toNat + m.toNat + t.p.c.toNat
  let r := BitVec.ofNat 8 sum
  withZN r { t with
    a := r
    p := { t.p with
      c := decide (255 < sum)
      v := t.a.getLsbD 7 == m.getLsbD 7 && r.getLsbD 7 != t.a.getLsbD 7 } }

/-- `A <- A - M - (1 - C)` of R272, with its flags: C is the absence of a borrow, V the signed overflow. -/
def differenceEffect (m : Byte) (t : State) : State :=
  let d : Int := t.a.toNat - m.toNat - (1 - t.p.c.toNat)
  let r := BitVec.ofInt 8 d
  withZN r { t with
    a := r
    p := { t.p with
      c := decide (0 ≤ d)
      v := t.a.getLsbD 7 != m.getLsbD 7 && r.getLsbD 7 != t.a.getLsbD 7 } }

/-- `Compare(r, m)` of R278 on a state. -/
def compareEffect (r m : Byte) (t : State) : State :=
  { t with p := { t.p with
      c := decide (m.toNat ≤ r.toNat)
      z := decide (r = m)
      n := (BitVec.ofInt 8 ((r.toNat : Int) - m.toNat)).getLsbD 7 } }

/-! Cells of memory. -/

/-- One byte of one of the memories. -/
inductive Place where
  | ram (k : Nat)
  | prgRam (k : Nat)
  | prgRom (k : Nat)
  | chr (k : Nat)
  | oam (k : Nat)
  | palette (k : Nat)
  | vram (k : Nat)
  deriving DecidableEq, Repr

/-- The byte at a place. -/
def readPlace (c : Place) (s : State) : Byte :=
  match c with
  | .ram k => Memory.read s.ram k
  | .prgRam k => Memory.read s.prgRam k
  | .prgRom k => Memory.read s.prgRom k
  | .chr k => Memory.read s.chr k
  | .oam k => Memory.read s.oam k
  | .palette k => Memory.read s.palette k
  | .vram k => Memory.read s.vram k

/-- Where a PPUDATA write lands (R110, R466), CHR ROM taking none (R555). -/
def ppuPlace (s : State) : Option Place :=
  let n := s.ppu.v.toNat % 0x4000
  if n ≤ 0x1FFF then if s.cart.chrIsRam then some (.chr (chrOffset n s)) else none
  else if n ≤ 0x3EFF then some (.vram (ntIndex s.mirror n))
  else some (.palette (palIndex n))

/-- A CPU write to an address may change the byte at a place (R102, R463, R466, R473, R553). -/
def writeTouches (addr : Addr) (s : State) (c : Place) : Bool :=
  let n := addr.toNat
  if n ≤ 0x1FFF then decide (c = .ram (n % 0x800))
  else if inPpuWindow addr then
    if n % 8 = 4 then decide (c = .oam s.ppu.oamAddr.toNat)
    else if n % 8 = 7 then decide (ppuPlace s = some c)
    else false
  else if n = 0x4014 then
    match c with
    | .oam _ => true
    | _ => false
  else if 0x6000 ≤ n ∧ n ≤ 0x7FFF then decide (c = .prgRam (n - 0x6000))
  else false

/-- The stack slot `k` pushes below SP (R15, R31). -/
def stackPlace (s : State) (k : Nat) : Place := .ram (0x100 + (s.sp.toNat + 256 - k) % 256)

/-- The instruction may change the byte at a place: its store, its pushes, or nothing. -/
def touches (i : Instr) (s : State) (c : Place) : Bool :=
  match i.mn with
  | .pha | .php => decide (c = stackPlace s 0)
  | .jsr => decide (c = stackPlace s 0) || decide (c = stackPlace s 1)
  | .brk => decide (c = stackPlace s 0) || decide (c = stackPlace s 1) || decide (c = stackPlace s 2)
  | _ =>
    match memOpOf i with
    | some m =>
      if i.mn.writes then writeTouches (eaOf m s) s c
      else if i.mn.modifies then writeTouches (eaOf m s) (readEffect (eaOf m s) s) c
      else false
    | none => false

/-- The addresses an instruction's own data accesses name, stack and vectors apart (R217, R221). -/
def dataAddresses (i : Instr) (s : State) : List Addr :=
  match i with
  | .jmpInd w => [w, word16 (highByte w) (lowByte w + 1)]
  | .jmpAbs _ | .jsrAbs _ => []
  | _ =>
    match memOpOf i with
    | some m => [eaOf m s]
    | none => []

/-! Invariants. -/

/-- The bank windows of mappers 0, 2 and 3 (R550, R560, R564, R567): the window sizes, the table lengths, every entry a bank that exists, and no own registers. -/
def MapInv (s : State) : Prop :=
  s.map.prgW = 16384 ∧ s.map.chrW = 8192 ∧ 16384 ≤ s.cart.prgSize ∧ 8192 ≤ s.cart.chrSize ∧
    s.map.prgWin.length = 2 ∧ s.map.chrWin.length = 1 ∧ s.map.regs = [] ∧
    (∀ b ∈ s.map.prgWin, b < prgBanks s) ∧ (∀ b ∈ s.map.chrWin, b < chrBanks s)

/-- A memory is in canonical form and has nothing listed at or above its size. -/
def Memory.fits {w : Nat} (size : Nat) (m : Store w) : Bool := Memory.wf m && Memory.below size m

/-- Every memory is in canonical form and within its size (R44 to R49, R62), under `MapInv`. -/
def MemoryInv (s : State) : Prop :=
  MapInv s ∧ Memory.fits 0x800 s.ram = true ∧ Memory.fits 0x2000 s.prgRam = true ∧
    Memory.fits s.cart.prgSize s.prgRom = true ∧ Memory.fits s.cart.chrSize s.chr = true ∧
    Memory.fits 256 s.oam = true ∧ Memory.fits 32 s.palette = true ∧ Memory.fits 4096 s.vram = true ∧
    Memory.fits 61440 s.ppu.back = true ∧ Memory.fits 61440 s.ppu.front = true

/-- B reads 0 and U reads 1 (R36). -/
def StatusInv (s : State) : Prop := s.p.b = false ∧ s.p.u = true

/-- The PPU's position, frame parity, NMI condition and line state are legal (R50, R59, R60, R61, R486, R504). -/
def PpuInv (s : State) : Prop :=
  s.ppu.cycle ≤ 340 ∧ s.ppu.scanline ≤ 261 ∧ s.ppu.odd = s.ppu.frame.getLsbD 0 ∧
    s.ppu.nmiPrevious = (s.ppu.ctrl.getLsbD 7 && s.ppu.vblank) ∧ s.ppu.nmiDelay ≤ s.cfg.nmiDelayTicks ∧
    s.ppu.atBits &&& 3 = 0 ∧ s.ppu.spriteCount ≤ 8

/-- The controller indices are 0 to 8, and 0 while the strobe is on (R65, R585, R586). -/
def PadInv (s : State) : Prop :=
  s.pads.index1 ≤ 8 ∧ s.pads.index2 ≤ 8 ∧ (s.pads.strobe = true → s.pads.index1 = 0 ∧ s.pads.index2 = 0)

end Sys2Proof.Machine
end

