-- ==== Sys2Proof/Certificates/Slice0/Obligations.lean ====
section
/-! DEFINITION. The statements for the provers. Each docstring names the rules of spec/ its statement formalises. -/

open Sys2Proof Sys2Proof.Machine

/-- For every one of the 256 instructions, with every operand, followed by any bytes: decode of encode i followed by the rest is i and the rest. (spec/30_encoding.md R150, spec/30_encoding.md R151, spec/30_encoding.md R153, spec/30_encoding.md R156) -/
def Obligations.DecodeEncode : Prop :=
  ∀ (i : Instr) (rest : List Byte), decode (encode i ++ rest) = .ok (i, rest)

/-- Whenever bytes decode to an instruction and a rest, they are its encoding followed by the rest. Every opcode byte followed by two bytes decodes; the instruction read has that opcode, and it takes 1 byte in modes impl and acc, 2 in imm, zp, zpx, zpy, izx, izy and rel, and 3 in abs, abx, aby and ind. BRK is of mode impl and takes 1 byte. (R152, R154) -/
def Obligations.DecodeTotal : Prop :=
  (∀ (bytes rest : List Byte) (i : Instr), decode bytes = .ok (i, rest) → bytes = encode i ++ rest) ∧
  (∀ op b1 b2 : Byte, ∃ i rest, decode [op, b1, b2] = .ok (i, rest) ∧ opcodeOf i = op ∧
    rest.length + (match i.mode with
      | .impl | .acc => 1
      | .imm | .zp | .zpx | .zpy | .izx | .izy | .rel => 2
      | .abs | .abx | .aby | .ind => 3) = 3) ∧
  Instr.brk.mode = .impl ∧ encode .brk = [0x00]

/-- The 256 opcode bytes decode to 256 instructions: 151 documented ones with 56 mnemonics, 80 unofficial ones (27 NOP, 6 LAX, 4 SAX, 1 SBC, 7 each of DCP, ISB, SLO, RLA, SRE, RRA), and 25 that always fault. (R160) -/
def Obligations.OpcodeMapCounts : Prop :=
  let all := (List.range 256).filterMap (decodeTableWord 24)
  let unofficial := all.filter fun i => decide (i.status = .unofficial)
  let count := fun m : Mnemonic => (unofficial.filter fun i => decide (i.mn = m)).length
  all.length = 256 ∧ (all.filter fun i => decide (i.status = .documented)).length = 151 ∧
  ((all.filter fun i => decide (i.status = .documented)).map Instr.mn).dedup.length = 56 ∧
  unofficial.length = 80 ∧ (all.filter fun i => decide (i.status = .alwaysIllegal)).length = 25 ∧
  count .nop = 27 ∧ count .lax = 6 ∧ count .sax = 4 ∧ count .sbc = 1 ∧ count .dcp = 7 ∧ count .isb = 7 ∧
  count .slo = 7 ∧ count .rla = 7 ∧ count .sre = 7 ∧ count .rra = 7

/-- One word of each family, written out from the spec: LDA $1234,X; PHP; SBC ($20),Y; ROR $0304; BNE with offset 0xFB; JMP ($02FF); SED; the unofficial DCP $10; and JAM. (spec/30_encoding.md R156, spec/30_encoding.md R157) -/
def Obligations.DecodeWords : Prop :=
  decode [0xBD, 0x34, 0x12] = .ok (.ldaAbx 0x1234, []) ∧ decode [0x08] = .ok (.php, []) ∧
  decode [0xF1, 0x20] = .ok (.sbcIzy 0x20, []) ∧ decode [0x6E, 0x04, 0x03] = .ok (.rorAbs 0x0304, []) ∧
  decode [0xD0, 0xFB] = .ok (.bne 0xFB, []) ∧ decode [0x6C, 0xFF, 0x02] = .ok (.jmpInd 0x02FF, []) ∧
  decode [0xF8] = .ok (.sed, []) ∧ decode [0xC7, 0x10] = .ok (.dcpZp 0x10, []) ∧ decode [0x02] = .ok (.jam02, [])

/-- When no fault, stall, NMI or unmasked IRQ stands, and the bytes read one by one from the program counter on decode to an instruction that is well formed under UNOFFICIAL_OPCODES, the step is exec of that instruction on the state those reads leave, followed by three ticks for each cycle it added; a fault ends the step with no tick. (spec/40_step_addressing.md R200, spec/40_step_addressing.md R201, spec/30_encoding.md R161) -/
def Obligations.StepRunsDecoded : Prop :=
  ∀ (s s1 : State) (bytes : List Byte) (i : Instr), s.instrReady = true →
    readBytes bytes.length s.pc s = .ok bytes s1 → decode bytes = .ok (i, []) →
    WellFormed s.cfg.unofficial i = true →
    step s = match exec i s1 with
      | .next t => .next (ticks (3 * (t.cycles - s.cycles).toNat) t)
      | .fault e => .fault e
      | .refused r => .refused r

/-- The fetch answers an instruction and a state exactly when the instruction is well formed under UNOFFICIAL_OPCODES and reading as many bytes as its encoding has, one by one from the program counter, gives that encoding and that state. (spec/40_step_addressing.md R201, spec/30_encoding.md R150, spec/30_encoding.md R161) -/
def Obligations.FetchReadsEncoding : Prop :=
  ∀ (s s1 : State) (i : Instr), fetch s = .ok i s1 ↔
    WellFormed s.cfg.unofficial i = true ∧ readBytes (encode i).length s.pc s = .ok (encode i) s1

/-- When no fault, stall, NMI or unmasked IRQ stands and the byte at the program counter is an opcode whose instruction is not well formed under UNOFFICIAL_OPCODES, the step faults with IllegalOpcode, the PC and the opcode, leaving the state after that one read with its fault record and nothing else changed; an unmapped program counter faults at the opcode read. (R161) -/
def Obligations.IllegalFetch : Prop :=
  (∀ (s : State) (i : Instr), s.instrReady = true → unmapped s.pc = false → readValue s.pc s = opcodeOf i →
    WellFormed s.cfg.unofficial i = false →
    step s = .fault (.illegalOpcode s.pc (opcodeOf i)
      { readEffect s.pc s with fault := some (.illegalOpcode s.pc (opcodeOf i)) })) ∧
  (∀ s : State, s.instrReady = true → unmapped s.pc = true →
    step s = .fault (.unmappedAddress s.pc .read { s with fault := some (.unmappedAddress s.pc .read) }))

/-- With a stall pending the step only counts it down, counts a cycle if STALL_COUNTS_CYCLES says so, and ticks the PPU three times, whatever NMI or IRQ is pending; an NMI pending before it stays pending. From a state whose fault record is set there is no next state: the answer names the record. That answer is the form this model gives R400: it is the model's choice (log 5). (spec/40_step_addressing.md R224, spec/60_exceptions.md R400, log 5) -/
def Obligations.StallAndFaultedSteps : Prop :=
  (∀ s : State, s.fault = none → 0 < s.stall →
    step s = .next (ticks 3 { s with
      stall := s.stall - 1
      cycles := if s.cfg.stallCountsCycles then s.cycles + 1 else s.cycles }) ∧
    (s.nmiPending = true → ∀ t, step s = .next t → t.nmiPending = true)) ∧
  (∀ (s : State) (r : FaultRecord), s.fault = some r → step s = .fault (.stopped r))

/-- With no fault and no stall and an NMI pending, the step clears nmi_pending, pushes PC (high byte first) and the status byte with bit 5 set and bit 4 equal to INT_PUSH_B, sets P.I, loads PC from 0xFFFA and 0xFFFB, adds 7 cycles and ticks the PPU 21 times; no other register, flag or memory byte changes before the ticks. (R413) -/
def Obligations.NmiStep : Prop :=
  ∀ s : State, s.fault = none → s.stall = 0 → s.nmiPending = true →
    step s = .next (ticks 21 { interrupted s.pc
        ((s.p.toByte &&& 0xEF#8) ||| 0x20#8 ||| (if s.cfg.intPushB then 0x10#8 else 0#8)) 0xFFFA s with
      nmiPending := false
      cycles := s.cycles + 7 })

/-- With no fault, no stall, no NMI pending, the IRQ line high and P.I clear, the step pushes PC and the status byte as NMI entry does, sets P.I, loads PC from 0xFFFE and 0xFFFF, adds 7 cycles and ticks the PPU 21 times. With P.I set the line is ignored: the step is an instruction step. (R414) -/
def Obligations.IrqStep : Prop :=
  (∀ s : State, s.fault = none → s.stall = 0 → s.nmiPending = false → s.irq = true → s.p.i = false →
    step s = .next (ticks 21 { interrupted s.pc
        ((s.p.toByte &&& 0xEF#8) ||| 0x20#8 ||| (if s.cfg.intPushB then 0x10#8 else 0#8)) 0xFFFE s with
      cycles := s.cycles + 7 })) ∧
  (∀ s : State, s.fault = none → s.stall = 0 → s.nmiPending = false → s.p.i = true → step s = instrStep s)

/-- The opcodes 02 12 22 32 42 52 62 72 92 B2 D2 F2, 0B 2B, 4B, 6B, 8B, AB, CB, 93 9F, 9C, 9E, 9B and BB, and no others, always raise IllegalOpcode with the PC and the opcode; the state they leave differs in its fault record only. (R381) -/
def Obligations.AlwaysIllegal : Prop :=
  (∀ i : Instr, i.status = .alwaysIllegal ↔ opcodeOf i ∈
    ([0x02, 0x12, 0x22, 0x32, 0x42, 0x52, 0x62, 0x72, 0x92, 0xB2, 0xD2, 0xF2, 0x0B, 0x2B, 0x4B, 0x6B, 0x8B, 0xAB, 0xCB,
      0x93, 0x9F, 0x9C, 0x9E, 0x9B, 0xBB] : List Byte)) ∧
  ∀ (i : Instr) (s : State), i.status = .alwaysIllegal →
    exec i s = .fault (.illegalOpcode s.pc (opcodeOf i)
      { s with fault := some (.illegalOpcode s.pc (opcodeOf i)) })

/-- Under UNOFFICIAL_OPCODES = fault each of the 80 unofficial instructions raises IllegalOpcode with the PC and its opcode, leaving the state unchanged but for the fault record; a documented instruction never raises IllegalOpcode. (spec/47_unofficial.md R370, spec/30_encoding.md R161) -/
def Obligations.UnofficialGate : Prop :=
  (∀ (i : Instr) (s : State), i.status = .unofficial → s.cfg.unofficial = .fault →
    exec i s = .fault (.illegalOpcode s.pc (opcodeOf i)
      { s with fault := some (.illegalOpcode s.pc (opcodeOf i)) })) ∧
  (∀ (i : Instr) (s left : State) (pc : Addr) (op : Byte), i.status = .documented →
    exec i s ≠ .fault (.illegalOpcode pc op left))

/-- A CPU read of 0x0000-0x1FFF is ram[a mod 0x800]; of 0x2000-0x3FFF a read of PPU register a mod 8; of 0x4016 and 0x4017 a controller read; of the rest of 0x4000-0x4020 OPEN_BUS; of 0x4021-0x5FFF the fault UnmappedAddress; of 0x6000-0xFFFF the mapper. (R101) -/
def Obligations.BusReadTable : Prop :=
  ∀ (a : Addr) (s : State),
    (a.toNat ≤ 0x1FFF → busRead a s = .ok (Memory.read s.ram (a.toNat % 0x800)) s) ∧
    (0x2000 ≤ a.toNat → a.toNat ≤ 0x3FFF →
      busRead a s = .ok (ppuRegRead (a.toNat % 8) s).1 (ppuRegRead (a.toNat % 8) s).2) ∧
    (a.toNat = 0x4016 → busRead a s = .ok (readPad1 s).1 (readPad1 s).2) ∧
    (a.toNat = 0x4017 → busRead a s = .ok (readPad2 s).1 (readPad2 s).2) ∧
    (0x4000 ≤ a.toNat → a.toNat ≤ 0x4020 → a.toNat ≠ 0x4016 → a.toNat ≠ 0x4017 → busRead a s = .ok s.cfg.openBus s) ∧
    (0x4021 ≤ a.toNat → a.toNat ≤ 0x5FFF →
      busRead a s = .fault (.unmappedAddress a .read { s with fault := some (.unmappedAddress a .read) })) ∧
    (0x6000 ≤ a.toNat → busRead a s = .ok (mapperCpuRead a.toNat s) s)

/-- A CPU write of 0x0000-0x1FFF stores to ram[a mod 0x800]; of 0x2000-0x3FFF writes PPU register a mod 8; of 0x4014 performs the OAM DMA; of 0x4016 strobes the controllers; of the rest of 0x4000-0x4020 has no effect; of 0x4021-0x5FFF faults; of 0x6000-0xFFFF goes to the mapper. (R102) -/
def Obligations.BusWriteTable : Prop :=
  ∀ (a : Addr) (v : Byte) (s : State),
    (a.toNat ≤ 0x1FFF → busWrite a v s = .ok () { s with ram := Memory.write s.ram (a.toNat % 0x800) v }) ∧
    (0x2000 ≤ a.toNat → a.toNat ≤ 0x3FFF → busWrite a v s = .ok () (ppuRegWrite (a.toNat % 8) v s)) ∧
    (a.toNat = 0x4014 → busWrite a v s = oamDma v s) ∧
    (a.toNat = 0x4016 → busWrite a v s = .ok () (strobePads v s)) ∧
    (0x4000 ≤ a.toNat → a.toNat ≤ 0x4020 → a.toNat ≠ 0x4014 → a.toNat ≠ 0x4016 → busWrite a v s = .ok () s) ∧
    (0x4021 ≤ a.toNat → a.toNat ≤ 0x5FFF →
      busWrite a v s = .fault (.unmappedAddress a .write { s with fault := some (.unmappedAddress a .write) })) ∧
    (0x6000 ≤ a.toNat → busWrite a v s = .ok () (mapperCpuWrite a.toNat v s))

/-- A write of a byte at any address below 0x2000 completes, and afterwards every address below 0x2000 reads that byte if it is the same modulo 0x800, and what it read before otherwise. (R103) -/
def Obligations.RamMirroring : Prop :=
  ∀ (a b : Addr) (v : Byte) (s : State), a.toNat ≤ 0x1FFF → b.toNat ≤ 0x1FFF →
    ∃ t, busWrite a v s = .ok () t ∧
      (a.toNat % 0x800 = b.toNat % 0x800 → busRead b t = .ok v t) ∧
      (a.toNat % 0x800 ≠ b.toNat % 0x800 → ∃ w, busRead b s = .ok w s ∧ busRead b t = .ok w t)

/-- For k below 1024 and r below 8, reading or writing 0x2000 + 8k + r is reading or writing 0x2000 + r; and after a write to 0x2000, a read of 0x2008 returns the byte just written. (R104) -/
def Obligations.PpuRegisterMirroring : Prop :=
  (∀ (k r : Nat) (v : Byte) (s : State), k ≤ 1023 → r ≤ 7 →
    busRead (BitVec.ofNat 16 (0x2000 + 8 * k + r)) s = busRead (BitVec.ofNat 16 (0x2000 + r)) s ∧
    busWrite (BitVec.ofNat 16 (0x2000 + 8 * k + r)) v s = busWrite (BitVec.ofNat 16 (0x2000 + r)) v s) ∧
  (∀ (v : Byte) (s : State), ∃ t, busWrite 0x2000 v s = .ok () t ∧ busRead 0x2008 t = .ok v t)

/-- A PPU access reduces its address mod 0x4000 and goes to CHR below 0x2000, at the offset in the bank that the CHR window of the address names, where a write changes that byte of CHR-RAM and nothing else, and nothing at all of CHR ROM; to the nametables below 0x3F00 and to the palette above; the nametable index is the mirror table of R111, and the palette index has period 32 with 0x10, 0x14, 0x18 and 0x1C aliasing 0x00, 0x04, 0x08 and 0x0C. (R110, R111, R112, R555) -/
def Obligations.PpuSpace : Prop :=
  (∀ (a : Addr) (v : Byte) (s : State),
    let n := a.toNat % 0x4000
    (n ≤ 0x1FFF → ppuRead a s = mapperPpuRead n s ∧ ppuWrite a v s = mapperPpuWrite n v s) ∧
    (∀ bank, n ≤ 0x1FFF → s.map.chrWin[n / s.map.chrW]? = some bank →
      let k := bank * s.map.chrW + n % s.map.chrW
      ppuRead a s = Memory.read s.chr k ∧
      (s.cart.chrIsRam = true → ppuWrite a v s = { s with chr := Memory.write s.chr k v })) ∧
    (n ≤ 0x1FFF → s.cart.chrIsRam = false → ppuWrite a v s = s) ∧
    (0x2000 ≤ n → n ≤ 0x3EFF → ppuRead a s = Memory.read s.vram (ntIndex s.mirror n) ∧
      ppuWrite a v s = { s with vram := Memory.write s.vram (ntIndex s.mirror n) v }) ∧
    (0x3F00 ≤ n → ppuRead a s = Memory.read s.palette (palIndex n) ∧
      ppuWrite a v s = { s with palette := Memory.write s.palette (palIndex n) v })) ∧
  (∀ (m : MirrorMode) (n : Nat), 0x2000 ≤ n → n ≤ 0x3EFF →
    let o := (n - 0x2000) % 0x1000
    ntIndex m n = match m with
      | .horizontal => 0x400 * (o / 0x800) + o % 0x400
      | .vertical => o % 0x800
      | .singleLow => o % 0x400
      | .singleHigh => 0x400 + o % 0x400
      | .fourScreen => o) ∧
  (∀ n : Nat, 0x3F00 ≤ n → n ≤ 0x3FFF → palIndex n = if n % 4 = 0 then n % 16 else n % 32)

/-- For window sizes that divide their region, at least one bank, a window of the table and any integer bank index b, after set_window(i, b) the byte at offset k of window i is the ROM byte at (b mod n) * w + k, in the PRG region and in the CHR region; b mod n is the Euclidean remainder. (R551, R570) -/
def Obligations.WindowProperty : Prop :=
  (∀ (s : State) (i : Nat) (b : Int) (k : Nat), s.map.prgW ∣ 0x8000 → 1 ≤ prgBanks s → k < s.map.prgW →
    i < s.map.prgWin.length → (i + 1) * s.map.prgW ≤ 0x8000 →
    (setPrgWindow i b s).map.prgWin = s.map.prgWin.set i (b.emod (prgBanks s)).toNat ∧
    mapperCpuRead (0x8000 + i * s.map.prgW + k) (setPrgWindow i b s) =
      Memory.read s.prgRom ((b.emod (prgBanks s)).toNat * s.map.prgW + k)) ∧
  (∀ (s : State) (i : Nat) (b : Int) (k : Nat), s.map.chrW ∣ 0x2000 → 1 ≤ chrBanks s → k < s.map.chrW →
    i < s.map.chrWin.length → (i + 1) * s.map.chrW ≤ 0x2000 →
    (setChrWindow i b s).map.chrWin = s.map.chrWin.set i (b.emod (chrBanks s)).toNat ∧
    mapperPpuRead (i * s.map.chrW + k) (setChrWindow i b s) =
      Memory.read s.chr ((b.emod (chrBanks s)).toNat * s.map.chrW + k))

/-- With at least one PRG and one CHR bank, the initial windows are 16 KB PRG windows [0, prg_n - 1] and one 8 KB CHR window [0]; a write to 0x8000-0xFFFF does nothing on mapper 0, sets PRG window 0 to v mod prg_n on mapper 2 and CHR window 0 to v mod chr_n on mapper 3, and changes nothing else. A read of 0x6000-0x7FFF gives the byte of PRG-RAM at that offset, and a read of 0x8000-0xFFFF the byte of PRG ROM at the offset in the bank its window names, both changing nothing; a write to 0x6000-0x7FFF changes that byte of PRG-RAM and nothing else. None of the three acts on a read, on an access of the PPU bus or on CPU cycles, and none drives the IRQ input. (R560, R564, R567) -/
def Obligations.ConcreteMappers : Prop :=
  (∀ (k : MapperKind) (prgSize chrSize : Nat), 16384 ≤ prgSize → 8192 ≤ chrSize →
    initialMap k prgSize chrSize = ⟨16384, 8192, [0, prgSize / 16384 - 1], [0], []⟩) ∧
  (∀ (a : Addr) (v : Byte) (s : State), 0x8000 ≤ a.toNat →
    busWrite a v s = .ok () (match s.cart.kind with
      | .nrom => s
      | .uxrom => { s with map := { s.map with prgWin := s.map.prgWin.set 0 (v.toNat % prgBanks s) } }
      | .cnrom => { s with map := { s.map with chrWin := s.map.chrWin.set 0 (v.toNat % chrBanks s) } })) ∧
  (∀ (a : Addr) (v : Byte) (s : State), 0x6000 ≤ a.toNat → a.toNat ≤ 0x7FFF →
    busRead a s = .ok (Memory.read s.prgRam (a.toNat - 0x6000)) s ∧
    busWrite a v s = .ok () { s with prgRam := Memory.write s.prgRam (a.toNat - 0x6000) v }) ∧
  (∀ (a : Addr) (bank : Nat) (s : State), 0x8000 ≤ a.toNat →
    s.map.prgWin[(a.toNat - 0x8000) / s.map.prgW]? = some bank →
    busRead a s = .ok (Memory.read s.prgRom (bank * s.map.prgW + (a.toNat - 0x8000) % s.map.prgW)) s) ∧
  (∀ (a : Addr) (n : Nat) (s : State), mapperReadEffect n s = s ∧ observePpu a s = s ∧ observeCpu n s = s ∧
    irqInput s = s.irq)

/-- In every step from every state, whether it ends in a next state or in a fault, PRG ROM, the cartridge and, on a cartridge with CHR ROM, CHR keep their contents; and a CPU write to 0x8000-0xFFFF never faults and leaves everything but the bank windows unchanged. (R557) -/
def Obligations.RomImmutable : Prop :=
  (∀ s t : State, step s = .next t →
    t.prgRom = s.prgRom ∧ t.cart = s.cart ∧ (s.cart.chrIsRam = false → t.chr = s.chr)) ∧
  (∀ (s t : State) (pc : Addr) (op : Byte), step s = .fault (.illegalOpcode pc op t) →
    t.prgRom = s.prgRom ∧ t.cart = s.cart ∧ (s.cart.chrIsRam = false → t.chr = s.chr)) ∧
  (∀ (s t : State) (a : Addr) (d : Access), step s = .fault (.unmappedAddress a d t) →
    t.prgRom = s.prgRom ∧ t.cart = s.cart ∧ (s.cart.chrIsRam = false → t.chr = s.chr)) ∧
  (∀ (a : Addr) (v : Byte) (s : State), 0x8000 ≤ a.toNat →
    ∃ m, busWrite a v s = .ok () { s with map := m } ∧ (s.cart.kind = .nrom → m = s.map))

/-- For every image that loads and has no trailing byte, serialising the loaded cartridge yields the image, byte for byte, whatever CHR-RAM holds; with trailing bytes it yields the image without them. (R583) -/
def Obligations.ImageRoundTrip : Prop :=
  ∀ (mapperSet image : List Byte) (l : Loaded) (chrRam : Mem), loadImage mapperSet image = .ok l →
    serialise l.cart l.prgRom (if l.cart.chrIsRam then chrRam else l.chrRom) = image.take (imageSize image) ∧
    (image.length = imageSize image →
      serialise l.cart l.prgRom (if l.cart.chrIsRam then chrRam else l.chrRom) = image)

/-- Loading faults with MalformedHeader at offset 0 for an image shorter than 16 bytes; at the first byte that differs from the magic 4E 45 53 1A; at 4 when prg_count is 0; at the image length when the image is too short; in that order. An image with none of these and an id outside MAPPER_SET faults with UnsupportedMapper and the id of the header; bytes after the CHR data change nothing. (R581) -/
def Obligations.LoadFaults : Prop :=
  (∀ set image : List Byte, image.length < 16 → loadImage set image = .error (.malformedHeader 0)) ∧
  (∀ (set image : List Byte) (k : Nat), 16 ≤ image.length → k < 4 →
    image.take k = ([0x4E, 0x45, 0x53, 0x1A] : List Byte).take k →
    image.getD k 0 ≠ ([0x4E, 0x45, 0x53, 0x1A] : List Byte).getD k 0 →
    loadImage set image = .error (.malformedHeader k)) ∧
  (∀ (set rest : List Byte), 12 ≤ rest.length →
    let image : List Byte := 0x4E :: 0x45 :: 0x53 :: 0x1A :: rest
    let size := 16 + (if (image.getD 6 0).getLsbD 2 then 512 else 0) + 16384 * (image.getD 4 0).toNat +
      8192 * (image.getD 5 0).toNat
    let id := BitVec.ofNat 8 (16 * ((image.getD 7 0).toNat / 16) + (image.getD 6 0).toNat / 16)
    (image.getD 4 0 = 0 → loadImage set image = .error (.malformedHeader 4)) ∧
    (image.getD 4 0 ≠ 0 → image.length < size → loadImage set image = .error (.malformedHeader image.length)) ∧
    (image.getD 4 0 ≠ 0 → size ≤ image.length → id ∉ set → loadImage set image = .error (.unsupportedMapper id)) ∧
    (image.getD 4 0 ≠ 0 → size ≤ image.length → id ∈ set → id = 0 ∨ id = 2 ∨ id = 3 →
      ∃ l, loadImage set image = .ok l ∧ loadImage set (image.take size) = .ok l))

/-- Power-on answers the load fault of an image that does not load; otherwise A, X, Y are 0, SP is 0xFD, P has I and U set only, cycles is RESET_CYCLES, no stall, no NMI, no fault, the memories are MEM_INIT and the image, the windows are the initial ones, the mirroring is the header's, the controllers are 0, the PPU is at its power-on values and PC is the word at 0xFFFC. The clause on the IRQ level, that it is 0, the default of IRQ_LINE, is the model's choice (R42, log 4). (spec/70_reset_and_hazards.md R600, spec/70_reset_and_hazards.md R601, spec/10_state.md R42, log 4) -/
def Obligations.PowerOn : Prop :=
  ∀ (cfg : Params) (image : List Byte) (init : MemInit),
    (∀ e, loadImage cfg.mapperSet image = .error e → powerOn cfg image init = .error e) ∧
    (∀ l, loadImage cfg.mapperSet image = .ok l → ∃ s, powerOn cfg image init = .ok s ∧
      s.a = 0 ∧ s.x = 0 ∧ s.y = 0 ∧ s.sp = 0xFD ∧ s.p.toByte = 0x24 ∧ s.cycles = cfg.resetCycles ∧ s.stall = 0 ∧
      s.nmiPending = false ∧ s.irq = false ∧ s.fault = none ∧ s.ram = init.ram ∧ s.prgRam = init.prgRam ∧
      s.oam = init.oam ∧ s.palette = init.palette ∧ s.vram = init.vram ∧ s.prgRom = l.prgRom ∧
      s.chr = (if l.cart.chrIsRam then init.chrRam else l.chrRom) ∧ s.cart = l.cart ∧ s.mirror = l.mirror ∧
      s.map = ⟨16384, 8192, [0, l.cart.prgSize / 16384 - 1], [0], []⟩ ∧ s.pads = ⟨0, 0, false, 0, 0⟩ ∧
      s.ppu = Ppu.powerOn ∧ s.cfg = cfg ∧ s.pc = word16 (readValue 0xFFFD s) (readValue 0xFFFC s))

/-- A warm reset sets SP to 0xFD, P.I to 1, stall and nmi_pending to 0, adds 7 to cycles, puts the PPU at cycle 340, scanline 240, frame 0, even, with PPUCTRL, PPUMASK and OAMADDR 0 and the NMI condition false, and PC to the word at 0xFFFC; everything else keeps its value. That it sets P.B to 0 and P.U to 1 is the model's reading of R604 and R36 (log 8): they are so already in every state that meets StatusInvariant. (spec/70_reset_and_hazards.md R602, spec/70_reset_and_hazards.md R603, spec/70_reset_and_hazards.md R604, spec/10_state.md R36, log 8) -/
def Obligations.WarmReset : Prop :=
  ∀ s : State, warmReset s = { s with
    sp := 0xFD
    p := { s.p with i := true, b := false, u := true }
    stall := 0
    nmiPending := false
    cycles := s.cycles + 7
    pc := word16 (readValue 0xFFFD s) (readValue 0xFFFC s)
    ppu := { s.ppu with
      cycle := 340
      scanline := 240
      frame := 0
      odd := false
      ctrl := 0x00
      mask := 0x00
      oamAddr := 0x00
      nmiPrevious := false } }

/-- A read of 0x4016 (0x4017) returns in bit 0 the button of controller 1 (2) at its index, 0 from index 8 on, and moves that index by one up to 8, or to 0 under the strobe; a write to 0x4016 sets the strobe to bit 0 and, when it is set, both indices to 0. So after the strobe is set and cleared, the k-th of the following reads of either controller returns its button k for k below 8, and 0 from then on. (R585, R586) -/
def Obligations.Controllers : Prop :=
  (∀ s : State, busRead 0x4016 s = .ok
      (if s.pads.index1 < 8 ∧ s.pads.buttons1.getLsbD s.pads.index1 = true then 1 else 0)
      { s with pads := { s.pads with index1 := if s.pads.strobe then 0 else min (s.pads.index1 + 1) 8 } }) ∧
  (∀ s : State, busRead 0x4017 s = .ok
      (if s.pads.index2 < 8 ∧ s.pads.buttons2.getLsbD s.pads.index2 = true then 1 else 0)
      { s with pads := { s.pads with index2 := if s.pads.strobe then 0 else min (s.pads.index2 + 1) 8 } }) ∧
  (∀ (v : Byte) (s : State), busWrite 0x4016 v s = .ok () { s with pads := { s.pads with
      strobe := v.getLsbD 0
      index1 := if v.getLsbD 0 then 0 else s.pads.index1
      index2 := if v.getLsbD 0 then 0 else s.pads.index2 } }) ∧
  (∀ (s : State) (k : Nat),
    let latched := strobePads 0 (strobePads 1 s)
    (readPad1 ((fun t => (readPad1 t).2)^[k] latched)).1 = (if s.pads.buttons1.getLsbD k then 1 else 0) ∧
    (readPad2 ((fun t => (readPad2 t).2)^[k] latched)).1 = (if s.pads.buttons2.getLsbD k then 1 else 0))

/-- A read of 0x2002 returns the latch in bits 4 to 0 and the overflow, sprite-zero and vblank flags in bits 5, 6 and 7; it clears the vblank flag and the write latch and makes the NMI condition false, and changes nothing else. The NMI condition is PPUCTRL bit 7 and vblank; a rising edge of it, and only that, sets the delay to NMI_DELAY_TICKS. (R452, R504) -/
def Obligations.StatusRead : Prop :=
  (∀ s : State, busRead 0x2002 s = .ok
      (BitVec.ofNat 8 (s.ppu.latch.toNat % 32 + 32 * s.ppu.overflow.toNat + 64 * s.ppu.sprite0Hit.toNat +
        128 * s.ppu.vblank.toNat))
      { s with ppu := { s.ppu with vblank := false, w := false, nmiPrevious := false } }) ∧
  (∀ s : State, nmiChange s = { s with ppu := { s.ppu with
      nmiPrevious := s.ppu.ctrl.getLsbD 7 && s.ppu.vblank
      nmiDelay := if (s.ppu.ctrl.getLsbD 7 = true ∧ s.ppu.vblank = true) ∧ s.ppu.nmiPrevious = false
        then s.cfg.nmiDelayTicks else s.ppu.nmiDelay } })

/-- A read of 0x2007 returns the read buffer below 0x3F00, filling it with the byte at v, and from 0x3F00 on returns the palette byte, filling the buffer with the byte at v - 0x1000; a write stores the byte at v and sets the latch; both then add 1 or 32 to v by PPUCTRL bit 2, and change nothing else. (R455, R456, R466) -/
def Obligations.DataPort : Prop :=
  let bump := fun s : State => BitVec.ofNat 15 (s.ppu.v.toNat + if s.ppu.ctrl.getLsbD 2 then 32 else 1)
  (∀ s : State, s.ppu.v.toNat % 0x4000 < 0x3F00 →
    busRead 0x2007 s = .ok s.ppu.readBuffer { s with ppu := { s.ppu with
      readBuffer := ppuRead (s.ppu.v.setWidth 16) s
      v := bump s } }) ∧
  (∀ s : State, 0x3F00 ≤ s.ppu.v.toNat % 0x4000 →
    busRead 0x2007 s = .ok (ppuRead (s.ppu.v.setWidth 16) s) { s with ppu := { s.ppu with
      readBuffer := ppuRead (BitVec.ofNat 16 (s.ppu.v.toNat - 0x1000)) s
      v := bump s } }) ∧
  (∀ (d : Byte) (s : State), ∃ t, busWrite 0x2007 d s = .ok () t ∧
    t.ppu = { s.ppu with latch := d, v := bump s } ∧
    { t with ppu := s.ppu } = ppuWrite (s.ppu.v.setWidth 16) d s)

/-- Reads of the write-only registers return the latch and change nothing; a read of OAMDATA returns the OAM byte at the OAM address and changes nothing. A write to PPUCTRL sets it and bits 11 and 10 of t and recomputes the NMI condition; PPUMASK and OAMADDR take the byte; OAMDATA stores the byte at the OAM address and adds 1 to it; a write to PPUSTATUS has no effect of its own; every one of these writes sets the latch. (R454, R457, R460, R461, R462, R463, R467) -/
def Obligations.PlainPorts : Prop :=
  (∀ s : State, (∀ a ∈ ([0x2000, 0x2001, 0x2003, 0x2005, 0x2006] : List Addr), busRead a s = .ok s.ppu.latch s) ∧
    busRead 0x2004 s = .ok (Memory.read s.oam s.ppu.oamAddr.toNat) s) ∧
  (∀ (d : Byte) (s : State),
    busWrite 0x2000 d s = .ok () (nmiChange { s with ppu := { s.ppu with
      latch := d, ctrl := d, t := (s.ppu.t &&& 0x73FF#15) ||| ((d &&& 3#8).setWidth 15 <<< 10) } }) ∧
    busWrite 0x2001 d s = .ok () { s with ppu := { s.ppu with latch := d, mask := d } } ∧
    busWrite 0x2002 d s = .ok () { s with ppu := { s.ppu with latch := d } } ∧
    busWrite 0x2003 d s = .ok () { s with ppu := { s.ppu with latch := d, oamAddr := d } } ∧
    busWrite 0x2004 d s = .ok () { s with
      oam := Memory.write s.oam s.ppu.oamAddr.toNat d, ppu := { s.ppu with latch := d, oamAddr := s.ppu.oamAddr + 1 } })

/-- With w clear, a PPUSCROLL write sets coarse X of t and fine X and sets w; with w set it sets fine Y and coarse Y of t and clears w. With w clear, a PPUADDR write sets bits 13 to 8 of t, clears bit 14 and sets w; with w set it sets bits 7 to 0 of t, copies t to v and clears w. Nothing else changes but the latch. So from w clear two PPUADDR writes hi, lo leave v and t at (hi mod 64) * 256 + lo. (R464, R465) -/
def Obligations.ScrollPorts : Prop :=
  (∀ (d : Byte) (s : State), s.ppu.w = false →
    busWrite 0x2005 d s = .ok () { s with ppu := { s.ppu with
      latch := d, w := true, x := BitVec.ofNat 3 (d.toNat % 8)
      t := BitVec.ofNat 15 (32 * (s.ppu.t.toNat / 32) + d.toNat / 8) } } ∧
    busWrite 0x2006 d s = .ok () { s with ppu := { s.ppu with
      latch := d, w := true, t := BitVec.ofNat 15 (256 * (d.toNat % 64) + s.ppu.t.toNat % 256) } }) ∧
  (∀ (d : Byte) (s : State), s.ppu.w = true →
    busWrite 0x2005 d s = .ok () { s with ppu := { s.ppu with
      latch := d, w := false
      t := BitVec.ofNat 15 (0x1000 * (d.toNat % 8) + 0x400 * (s.ppu.t.toNat / 0x400 % 4) + 32 * (d.toNat / 8) +
        s.ppu.t.toNat % 32) } } ∧
    busWrite 0x2006 d s = .ok () { s with ppu := { s.ppu with
      latch := d, w := false
      t := BitVec.ofNat 15 (256 * (s.ppu.t.toNat / 256) + d.toNat)
      v := BitVec.ofNat 15 (256 * (s.ppu.t.toNat / 256) + d.toNat) } }) ∧
  (∀ (hi lo : Byte) (s : State), s.ppu.w = false → ∃ t1 t2, busWrite 0x2006 hi s = .ok () t1 ∧
    busWrite 0x2006 lo t1 = .ok () t2 ∧ t2.ppu.v = BitVec.ofNat 15 (256 * (hi.toNat % 64) + lo.toNat) ∧
    t2.ppu.t = t2.ppu.v ∧ t2.ppu.w = false)

/-- In fields (coarse X, coarse Y, nametable X and Y, fine Y): IncrementX wraps coarse X at 32 and flips nametable X; IncrementY wraps fine Y at 8 into coarse Y, which wraps from 29 to 0 flipping nametable Y, and from 31 to 0 without flipping; CopyX takes coarse X and nametable X from t; CopyY takes fine Y, coarse Y and nametable Y from t. (R488) -/
def Obligations.ScrollCounters : Prop :=
  let loopy := fun (fineY ntY ntX coarseY coarseX : Nat) =>
    BitVec.ofNat 15 (0x1000 * fineY + 0x800 * ntY + 0x400 * ntX + 0x20 * coarseY + coarseX)
  ∀ fineY ntY ntX coarseY coarseX fineY' ntY' ntX' coarseY' coarseX' : Nat,
    fineY < 8 → ntY < 2 → ntX < 2 → coarseY < 32 → coarseX < 32 →
    fineY' < 8 → ntY' < 2 → ntX' < 2 → coarseY' < 32 → coarseX' < 32 →
    let v := loopy fineY ntY ntX coarseY coarseX
    let t := loopy fineY' ntY' ntX' coarseY' coarseX'
    incX v = (if coarseX = 31 then loopy fineY ntY (1 - ntX) coarseY 0
      else loopy fineY ntY ntX coarseY (coarseX + 1)) ∧
    incY v = (if fineY < 7 then loopy (fineY + 1) ntY ntX coarseY coarseX
      else if coarseY = 29 then loopy 0 (1 - ntY) ntX 0 coarseX
      else if coarseY = 31 then loopy 0 ntY ntX 0 coarseX
      else loopy 0 ntY ntX (coarseY + 1) coarseX) ∧
    copyX v t = loopy fineY ntY ntX' coarseY coarseX' ∧
    copyY v t = loopy fineY' ntY' ntX coarseY' coarseX

/-- From a position in range, with (l, c) the next position ((0, 0) where an odd frame skips from (261, 339)), a tick counts the NMI delay down, moves to (l, c) and, with rendering enabled: draws a pixel on lines 0-239, cycles 1-256; in the fetch cycles 1-256 and 321-336 of those lines and of line 261 shifts the tile data, fetches the nametable byte, the attribute bits and the two pattern bytes at c mod 8 = 1, 3, 5 and 7, stores the tile and increments X at 0; increments Y at 256; copies X at 257 and, on line 261, Y at 280-304; evaluates the sprites at 257, or clears their count beyond line 239. (241, 1) and (261, 1) set and clear the flags. Nothing else changes. (R485, R487) -/
def Obligations.TickSchedule : Prop :=
  ∀ s : State, s.ppu.cycle ≤ 340 → s.ppu.scanline ≤ 261 →
    let p := s.ppu
    let rendering := p.mask.getLsbD 3 = true ∨ p.mask.getLsbD 4 = true
    let skips := p.odd = true ∧ p.scanline = 261 ∧ p.cycle = 339 ∧ (rendering ∨ s.cfg.oddSkipNeedsRendering = false)
    let c := if skips ∨ p.cycle = 340 then 0 else p.cycle + 1
    let l := if skips then 0 else if p.cycle = 340 then (if p.scanline = 261 then 0 else p.scanline + 1) else p.scanline
    let frame := if l = 0 ∧ c = 0 then p.frame + 1 else p.frame
    let odd := if l = 0 ∧ c = 0 then !p.odd else p.odd
    let there : State := { s with ppu := { p with cycle := c, scanline := l, frame := frame, odd := odd } }
    let onLine := rendering ∧ (l ≤ 239 ∨ l = 261)
    let fetching := onLine ∧ ((1 ≤ c ∧ c ≤ 256) ∨ (321 ≤ c ∧ c ≤ 336))
    let drawing := rendering ∧ l ≤ 239 ∧ 1 ≤ c ∧ c ≤ 256
    let sprites := rendering ∧ c = 257
    let setsFlags := l = 241 ∧ c = 1
    let clearsFlags := l = 261 ∧ c = 1
    tick s = { s with
      nmiPending := s.nmiPending || (decide (p.nmiDelay = 1) && p.ctrl.getLsbD 7 && p.vblank)
      ppu := { p with
        cycle := c, scanline := l, frame := frame, odd := odd
        back := if drawing then (renderPixel there).ppu.back else p.back
        sprite0Hit := if clearsFlags then false else if drawing then (renderPixel there).ppu.sprite0Hit else p.sprite0Hit
        tileData := if fetching then (p.tileData <<< 4) |||
          (if c % 8 = 0 then (packTile p.atBits p.ptLow p.ptHigh).setWidth 64 else 0) else p.tileData
        ntByte := if fetching ∧ c % 8 = 1 then (fetchNametable there).ppu.ntByte else p.ntByte
        atBits := if fetching ∧ c % 8 = 3 then (fetchAttribute there).ppu.atBits else p.atBits
        ptLow := if fetching ∧ c % 8 = 5 then (fetchPatternLow there).ppu.ptLow else p.ptLow
        ptHigh := if fetching ∧ c % 8 = 7 then (fetchPatternHigh there).ppu.ptHigh else p.ptHigh
        v := if onLine ∧ c = 257 then copyX p.v p.t
          else if rendering ∧ l = 261 ∧ 280 ≤ c ∧ c ≤ 304 then copyY p.v p.t
          else if onLine ∧ c = 256 then incY (incX p.v)
          else if fetching ∧ c % 8 = 0 then incX p.v
          else p.v
        slots := if sprites ∧ l ≤ 239 then (evaluateSprites there).ppu.slots else p.slots
        spriteCount := if sprites then (if l ≤ 239 then (evaluateSprites there).ppu.spriteCount else 0) else p.spriteCount
        overflow := if clearsFlags then false
          else if sprites ∧ l ≤ 239 then (evaluateSprites there).ppu.overflow else p.overflow
        vblank := if setsFlags then true else if clearsFlags then false else p.vblank
        front := if setsFlags then p.back else p.front
        nmiPrevious := if setsFlags then p.ctrl.getLsbD 7 else if clearsFlags then false else p.nmiPrevious
        nmiDelay := if setsFlags ∧ p.ctrl.getLsbD 7 = true ∧ p.nmiPrevious = false then s.cfg.nmiDelayTicks
          else p.nmiDelay - 1 } }

/-- From position (0, 0) an even frame returns to (0, 0) after 89342 ticks with the frame counter one larger, and at no earlier tick; an odd frame does so after 89341 ticks when the skip applies, and after 89342 when it does not. From the power-on position the first tick reaches (241, 0), the second sets vblank at (241, 1), and the 7162nd reaches (0, 0) of frame 1. (R489) -/
def Obligations.FrameLength : Prop :=
  (∀ s : State, s.ppu.cycle = 0 → s.ppu.scanline = 0 →
    let skips := s.ppu.odd = true ∧
      (s.ppu.mask.getLsbD 3 = true ∨ s.ppu.mask.getLsbD 4 = true ∨ s.cfg.oddSkipNeedsRendering = false)
    let atStart := fun t : State => t.ppu.cycle = 0 ∧ t.ppu.scanline = 0
    (¬skips → atStart (ticks 89342 s) ∧ (ticks 89342 s).ppu.frame = s.ppu.frame + 1 ∧
      (ticks 89342 s).ppu.odd = !s.ppu.odd ∧ ∀ n, 0 < n → n < 89342 → ¬atStart (ticks n s)) ∧
    (skips → atStart (ticks 89341 s) ∧ (ticks 89341 s).ppu.frame = s.ppu.frame + 1 ∧
      (ticks 89341 s).ppu.odd = false ∧ ∀ n, 0 < n → n < 89341 → ¬atStart (ticks n s))) ∧
  (∀ s : State, s.ppu = Ppu.powerOn →
    (tick s).ppu.scanline = 241 ∧ (tick s).ppu.cycle = 0 ∧ (tick s).ppu.vblank = false ∧
    (ticks 2 s).ppu.scanline = 241 ∧ (ticks 2 s).ppu.cycle = 1 ∧ (ticks 2 s).ppu.vblank = true ∧
    (ticks 7162 s).ppu.scanline = 0 ∧ (ticks 7162 s).ppu.cycle = 0 ∧ (ticks 7162 s).ppu.frame = 1)

/-- A tick requests the NMI exactly when the delay stands at 1 and PPUCTRL bit 7 and vblank both hold; a request already made stays. The tick from (241, 0), with PPUCTRL bit 7 set and the condition not yet true, is a rising edge and sets the delay to NMI_DELAY_TICKS; every other tick, those from (241, 0) without that edge and from (261, 0) included, counts a running delay down by one and leaves an idle one idle. (R505) -/
def Obligations.NmiDelay : Prop :=
  (∀ s : State, (tick s).nmiPending =
    (s.nmiPending || (decide (s.ppu.nmiDelay = 1) && s.ppu.ctrl.getLsbD 7 && s.ppu.vblank))) ∧
  (∀ s : State, (tick s).ppu.nmiDelay =
    if s.ppu.scanline = 241 ∧ s.ppu.cycle = 0 ∧ s.ppu.ctrl.getLsbD 7 = true ∧ s.ppu.nmiPrevious = false
    then s.cfg.nmiDelayTicks else s.ppu.nmiDelay - 1)

/-- The tick to (241, 1), whatever the rendering state, publishes the back buffer and leaves it as it was, sets vblank and recomputes the NMI condition; the tick to (261, 1) clears vblank, the sprite-zero hit and the overflow flag and makes the NMI condition false; a tick to any other position changes neither vblank nor the front buffer. (R497, R498) -/
def Obligations.VblankEvents : Prop :=
  (∀ s : State, s.ppu.scanline = 241 → s.ppu.cycle = 0 →
    let p := (tick s).ppu
    p.front = s.ppu.back ∧ p.back = s.ppu.back ∧ p.vblank = true ∧ p.nmiPrevious = s.ppu.ctrl.getLsbD 7) ∧
  (∀ s : State, s.ppu.scanline = 261 → s.ppu.cycle = 0 →
    let p := (tick s).ppu
    p.vblank = false ∧ p.sprite0Hit = false ∧ p.overflow = false ∧ p.nmiPrevious = false ∧ p.front = s.ppu.front) ∧
  (∀ s : State, ¬(s.ppu.scanline = 241 ∧ s.ppu.cycle = 0) → ¬(s.ppu.scanline = 261 ∧ s.ppu.cycle = 0) →
    (tick s).ppu.vblank = s.ppu.vblank ∧ (tick s).ppu.front = s.ppu.front)

/-- With the covering sprites the OAM numbers i in ascending order whose y byte is at most the scanline and within the height (8, or 16 by PPUCTRL bit 5) of it: the slot count is their number, at most 8; the overflow flag is set if they are more than 8 and kept otherwise; slot k holds the k-th of them (its pattern row, x, priority bit and number); the other slots are unchanged. (R490, R491) -/
def Obligations.SpriteEvaluation : Prop :=
  ∀ s : State,
    let height := if s.ppu.ctrl.getLsbD 5 then 16 else 8
    let y := fun i : Nat => (Memory.read s.oam (4 * i)).toNat
    let hits := (List.range 64).filter fun i => decide (y i ≤ s.ppu.scanline ∧ s.ppu.scanline < y i + height)
    let t := evaluateSprites s
    t.ppu.spriteCount = min hits.length 8 ∧ t.ppu.overflow = (s.ppu.overflow || decide (8 < hits.length)) ∧
    (∀ k i, k < 8 → hits[k]? = some i →
      slotAt k t = ⟨spritePattern (Memory.read s.oam (4 * i + 1)) (Memory.read s.oam (4 * i + 2)) (s.ppu.scanline - y i) s,
        Memory.read s.oam (4 * i + 3), (Memory.read s.oam (4 * i + 2)).getLsbD 5, BitVec.ofNat 6 i⟩) ∧
    (∀ k, hits.length ≤ k → slotAt k t = slotAt k s)

/-- The nametable byte is read at 0x2000 plus bits 11 to 0 of v; the attribute bits are 4 times the two bits that bit 1 of coarse Y and bit 1 of coarse X select in the attribute byte of the 4x4-tile area of v; the pattern bytes are read in the table of PPUCTRL bit 4 at 16 times the nametable byte plus fine Y, and 8 above; each fetch changes nothing else. Pixel j of a packed tile row is the attribute bits, bit 7 - j of the high byte and bit 7 - j of the low byte, and the row is ORed into the low half of the tile data; pixel j of a packed sprite row has its palette in bits 3 and 2 and bit 7 - j of the pattern bytes, or bit j when attribute bit 6 is set; the row address is that of R492 in both sprite sizes and with vertical flip. (R480, R481, R482, R483, R492) -/
def Obligations.PatternRows : Prop :=
  (∀ s : State,
    let n := s.ppu.v.toNat
    let row := 0x1000 * (s.ppu.ctrl.getLsbD 4).toNat + 16 * s.ppu.ntByte.toNat + n / 0x1000
    let area := 0x23C0 + 0x400 * (n / 0x400 % 4) + 8 * (n / 0x80 % 8) + n / 4 % 8
    let quadrant := 2 ^ (4 * (n / 0x40 % 2) + 2 * (n / 2 % 2))
    fetchNametable s = { s with ppu := { s.ppu with ntByte := ppuRead (BitVec.ofNat 16 (0x2000 + n % 0x1000)) s } } ∧
    fetchAttribute s = { s with ppu := { s.ppu with
      atBits := BitVec.ofNat 4 (4 * ((ppuRead (BitVec.ofNat 16 area) s).toNat / quadrant % 4)) } } ∧
    fetchPatternLow s = { s with ppu := { s.ppu with ptLow := ppuRead (BitVec.ofNat 16 row) s } } ∧
    fetchPatternHigh s = { s with ppu := { s.ppu with ptHigh := ppuRead (BitVec.ofNat 16 (row + 8)) s } }) ∧
  (∀ (at4 : BitVec 4) (lo hi : Byte) (j : Nat), j < 8 →
    (packTile at4 lo hi >>> (4 * (7 - j))).setWidth 4 =
      at4 ||| BitVec.ofNat 4 (2 * (hi.getLsbD (7 - j)).toNat + (lo.getLsbD (7 - j)).toNat)) ∧
  (∀ s : State, (storeTile s).ppu.tileData =
    s.ppu.tileData ||| (packTile s.ppu.atBits s.ppu.ptLow s.ppu.ptHigh).setWidth 64) ∧
  (∀ (attr lo hi : Byte) (j : Nat), j < 8 →
    let b := if attr.getLsbD 6 then j else 7 - j
    (packSprite attr lo hi >>> (4 * (7 - j))).setWidth 4 =
      BitVec.ofNat 4 (4 * (attr.toNat % 4) + 2 * (hi.getLsbD b).toNat + (lo.getLsbD b).toNat)) ∧
  (∀ (ctrl tile attr : Byte) (row : Nat), ctrl.getLsbD 5 = false → row < 8 →
    spriteAddr ctrl tile attr row = BitVec.ofNat 16 (0x1000 * (ctrl.getLsbD 3).toNat + 16 * tile.toNat +
      if attr.getLsbD 7 then 7 - row else row)) ∧
  (∀ (ctrl tile attr : Byte) (row : Nat), ctrl.getLsbD 5 = true → row < 16 →
    let r := if attr.getLsbD 7 then 15 - row else row
    spriteAddr ctrl tile attr row =
      BitVec.ofNat 16 (0x1000 * (tile.toNat % 2) + 16 * (2 * (tile.toNat / 2) + r / 8) + r % 8)) ∧
  (∀ (tile attr : Byte) (row : Nat) (s : State),
    let a := spriteAddr s.ppu.ctrl tile attr row
    spritePattern tile attr row s = packSprite attr (ppuRead a s) (ppuRead (a + 8) s))

/-- The background pixel is the one fine X names in the tile now being drawn, or 0 with background off. The sprite pixel is 0 with sprites off or no opaque slot at the column, and else that of the lowest opaque slot below the count. After left-column clipping, the pixel written at (scanline, cycle - 1) is the palette entry of 0, of the sprite colour + 0x10, or of the background colour by opacity and priority, and sprite-zero hit is set when both are opaque, the slot holds sprite 0 and the column is below 255; no other pixel changes. (R493, R494, R495, R496) -/
def Obligations.Pixels : Prop :=
  (∀ s : State, backgroundPixel s = if s.ppu.mask.getLsbD 3
    then BitVec.ofNat 4 (s.ppu.tileData.toNat / 2 ^ 32 / 16 ^ (7 - s.ppu.x.toNat)) else 0) ∧
  (∀ (s : State) (col : Nat),
    let opaqueAt := fun k : Nat => k < s.ppu.spriteCount ∧ k < 8 ∧ (slotPixel k col s).toNat % 4 ≠ 0
    (s.ppu.mask.getLsbD 4 = false → spritePixel col s = (0, 0)) ∧
    (s.ppu.mask.getLsbD 4 = true → (∀ k, ¬opaqueAt k) → (spritePixel col s).1 = 0) ∧
    (∀ k, s.ppu.mask.getLsbD 4 = true → opaqueAt k → (∀ j, j < k → ¬opaqueAt j) →
      spritePixel col s = (slotPixel k col s, k))) ∧
  (∀ (s : State) (k col : Nat), slotPixel k col s =
    if (slotAt k s).x.toNat ≤ col ∧ col ≤ (slotAt k s).x.toNat + 7
    then BitVec.ofNat 4 ((slotAt k s).pattern.toNat / 16 ^ (7 - (col - (slotAt k s).x.toNat))) else 0) ∧
  (∀ s : State,
    let col := s.ppu.cycle - 1
    let bg := if col < 8 ∧ s.ppu.mask.getLsbD 1 = false then 0 else backgroundPixel s
    let sp := if col < 8 ∧ s.ppu.mask.getLsbD 2 = false then 0 else (spritePixel col s).1
    let slot := slotAt (spritePixel col s).2 s
    let bgOpaque := bg.toNat % 4 ≠ 0
    let spOpaque := sp.toNat % 4 ≠ 0
    let showSprite := spOpaque ∧ (¬bgOpaque ∨ slot.priority = false)
    let entry := fun colour : Nat => (Memory.read s.palette (palIndex (0x3F00 + colour))).setWidth 6
    (∀ k, k ≠ s.ppu.scanline * 256 + col → Memory.read (renderPixel s).ppu.back k = Memory.read s.ppu.back k) ∧
    (showSprite → Memory.read (renderPixel s).ppu.back (s.ppu.scanline * 256 + col) = entry (sp.toNat + 16)) ∧
    (¬showSprite → bgOpaque → Memory.read (renderPixel s).ppu.back (s.ppu.scanline * 256 + col) = entry bg.toNat) ∧
    (¬spOpaque → ¬bgOpaque → Memory.read (renderPixel s).ppu.back (s.ppu.scanline * 256 + col) = entry 0) ∧
    ((renderPixel s).ppu.sprite0Hit = true ↔
      s.ppu.sprite0Hit = true ∨ (bgOpaque ∧ spOpaque ∧ slot.index = 0 ∧ col < 255)))

/-- A write of a page to 0x4014 copies 256 bytes, read in ascending order through the CPU router, to OAM from the OAM address on, wrapping, leaves the OAM address where it was and adds 513, or 514 at an odd cycle count, to the stall. From a page of RAM, PRG-RAM or ROM, source byte i lands at OAM byte (k + i) mod 256, k being the OAM address, and nothing else changes. From page 0x40 it copies the 33 bytes of 0x4000 to 0x4020 (open bus and the two controllers) to OAM from the OAM address on, which moves by 33, and then faults at 0x4021; from pages 0x41 to 0x5F it copies nothing and faults at the first byte; the bytes copied stay, the controllers have shifted, no stall is added, and of the rest only the fault record changes. (R473, R474) -/
def Obligations.OamDma : Prop :=
  let copied := fun (d : Byte) (n : Nat) (s : State) => (List.range n).foldl (fun u i =>
    let source := BitVec.ofNat 16 (256 * d.toNat + i)
    { readEffect source u with
      oam := Memory.write u.oam u.ppu.oamAddr.toNat (readValue source u)
      ppu := { (readEffect source u).ppu with oamAddr := u.ppu.oamAddr + 1 } }) s
  (∀ (d : Byte) (s : State), d.toNat < 0x40 ∨ 0x60 ≤ d.toNat → ∃ t, busWrite 0x4014 d s = .ok () t ∧
    t.stall = s.stall + (if s.cycles.toNat % 2 = 0 then 513 else 514) ∧ t.ppu.oamAddr = s.ppu.oamAddr ∧
    { t with stall := s.stall } = copied d 256 s) ∧
  (∀ (d : Byte) (s : State), d.toNat < 0x20 ∨ 0x60 ≤ d.toNat → ∃ oam, busWrite 0x4014 d s = .ok () { s with
      oam := oam, stall := s.stall + (if s.cycles.toNat % 2 = 0 then 513 else 514) } ∧
    ∀ i, i < 256 → Memory.read oam ((s.ppu.oamAddr.toNat + i) % 256) = readValue (BitVec.ofNat 16 (256 * d.toNat + i)) s) ∧
  (∀ s : State, busWrite 0x4014 0x40 s = .fault (.unmappedAddress 0x4021 .read
    { copied 0x40 33 s with fault := some (.unmappedAddress 0x4021 .read) })) ∧
  (∀ (d : Byte) (s : State), 0x41 ≤ d.toNat → d.toNat ≤ 0x5F →
    let a := BitVec.ofNat 16 (256 * d.toNat)
    busWrite 0x4014 d s = .fault (.unmappedAddress a .read { s with fault := some (.unmappedAddress a .read) })) ∧
  (∀ s : State, (copied 0x40 33 s).ppu.oamAddr = s.ppu.oamAddr + 33 ∧ (copied 0x40 33 s).stall = s.stall ∧
    ∀ i, i < 33 → Memory.read (copied 0x40 33 s).oam ((s.ppu.oamAddr.toNat + i) % 256) =
      if i < 22 ∨ 23 < i then s.cfg.openBus else if i = 22 then (readPad1 s).1 else (readPad2 s).1)

/-- Resolving an operand never faults and changes nothing; zp, zpx and zpy give an address of page 0, indexed with wrap; abs gives the operand; abx and aby add the index mod 2^16; izx takes the pointer at the indexed zero-page byte, izy the pointer at the operand and then adds Y; a pointer at 0xFF takes its high byte from 0x00; crossed says that abx, aby or izy changed the page. (R205, R206, R211, R212, R213, R214, R215, R216, R218, R219) -/
def Obligations.EffectiveAddresses : Prop :=
  let pointer := fun (s : State) (p : Nat) =>
    (Memory.read s.ram p).toNat + 256 * (Memory.read s.ram (if p = 255 then 0 else p + 1)).toNat
  let plain := fun (n : Nat) => Ea.mk (BitVec.ofNat 16 n) false
  let indexedBy := fun (base : Nat) (r : Byte) =>
    Ea.mk (BitVec.ofNat 16 (base + r.toNat)) (decide (256 ≤ base % 256 + r.toNat))
  (∀ (b : Byte) (s : State), resolve (.zp b) s = .ok (plain b.toNat) s ∧
    resolve (.zpx b) s = .ok (plain ((b.toNat + s.x.toNat) % 256)) s ∧
    resolve (.zpy b) s = .ok (plain ((b.toNat + s.y.toNat) % 256)) s ∧
    resolve (.izx b) s = .ok (plain (pointer s ((b.toNat + s.x.toNat) % 256))) s ∧
    resolve (.izy b) s = .ok (indexedBy (pointer s b.toNat) s.y) s) ∧
  (∀ (w : Addr) (s : State), resolve (.abs w) s = .ok (plain w.toNat) s ∧
    resolve (.abx w) s = .ok (indexedBy w.toNat s.x) s ∧ resolve (.aby w) s = .ok (indexedBy w.toNat s.y) s)

/-- Every form of LDA, LDX and LDY, with the opcode byte, base cycles and page penalty of its rule, completes when its operand is an immediate or lies at a mapped address: the register takes M, Z and N follow M, the read has its side effect once, and nothing else changes but PC and cycles; at an unmapped address it faults. (R231, R232, R233) -/
def Obligations.Loads : Prop :=
  ∀ (b : Byte) (w : Addr),
  let lda := fun (m : Byte) (t : State) => withZN m { t with a := m }
  let ldx := fun (m : Byte) (t : State) => withZN m { t with x := m }
  let ldy := fun (m : Byte) (t : State) => withZN m { t with y := m }
  ReadsAs documented lda (.ldaIzx b) 0xA1 6 (.mem (.izx b)) ∧
  ReadsAs documented lda (.ldaZp b) 0xA5 3 (.mem (.zp b)) ∧
  ReadsAs documented lda (.ldaImm b) 0xA9 2 (.imm b) ∧
  ReadsAs documented lda (.ldaAbs w) 0xAD 4 (.mem (.abs w)) ∧
  ReadsAs documented lda (.ldaIzy b) 0xB1 5 (.mem (.izy b)) ∧
  ReadsAs documented lda (.ldaZpx b) 0xB5 4 (.mem (.zpx b)) ∧
  ReadsAs documented lda (.ldaAby w) 0xB9 4 (.mem (.aby w)) ∧
  ReadsAs documented lda (.ldaAbx w) 0xBD 4 (.mem (.abx w)) ∧
  ReadsAs documented ldx (.ldxImm b) 0xA2 2 (.imm b) ∧
  ReadsAs documented ldx (.ldxZp b) 0xA6 3 (.mem (.zp b)) ∧
  ReadsAs documented ldx (.ldxAbs w) 0xAE 4 (.mem (.abs w)) ∧
  ReadsAs documented ldx (.ldxZpy b) 0xB6 4 (.mem (.zpy b)) ∧
  ReadsAs documented ldx (.ldxAby w) 0xBE 4 (.mem (.aby w)) ∧
  ReadsAs documented ldy (.ldyImm b) 0xA0 2 (.imm b) ∧
  ReadsAs documented ldy (.ldyZp b) 0xA4 3 (.mem (.zp b)) ∧
  ReadsAs documented ldy (.ldyAbs w) 0xAC 4 (.mem (.abs w)) ∧
  ReadsAs documented ldy (.ldyZpx b) 0xB4 4 (.mem (.zpx b)) ∧
  ReadsAs documented ldy (.ldyAbx w) 0xBC 4 (.mem (.abx w))

/-- Every form of STA, STX and STY, with the opcode byte and base cycles of its rule, completes unless its address is unmapped or its OAM DMA meets one: it writes the register at the effective address, once, with the effect of that address, and changes nothing else but PC and cycles; at an unmapped address it faults, and on a write to 0x4014 of a page from 0x40 to 0x5F it stops at the OAM DMA read that faults, both with PC and cycles advanced. (R234, R235, R236) -/
def Obligations.Stores : Prop :=
  ∀ (b : Byte) (w : Addr),
  WritesAs documented State.a (.staIzx b) 0x81 6 (.izx b) ∧
  WritesAs documented State.a (.staZp b) 0x85 3 (.zp b) ∧
  WritesAs documented State.a (.staAbs w) 0x8D 4 (.abs w) ∧
  WritesAs documented State.a (.staIzy b) 0x91 6 (.izy b) ∧
  WritesAs documented State.a (.staZpx b) 0x95 4 (.zpx b) ∧
  WritesAs documented State.a (.staAby w) 0x99 5 (.aby w) ∧
  WritesAs documented State.a (.staAbx w) 0x9D 5 (.abx w) ∧
  WritesAs documented State.x (.stxZp b) 0x86 3 (.zp b) ∧
  WritesAs documented State.x (.stxAbs w) 0x8E 4 (.abs w) ∧
  WritesAs documented State.x (.stxZpy b) 0x96 4 (.zpy b) ∧
  WritesAs documented State.y (.styZp b) 0x84 3 (.zp b) ∧
  WritesAs documented State.y (.styAbs w) 0x8C 4 (.abs w) ∧
  WritesAs documented State.y (.styZpx b) 0x94 4 (.zpx b)

/-- TAX, TAY, TXA, TYA, TSX, INX, INY, DEX and DEY always complete in 2 cycles: the destination register takes the source or the value one up or down mod 256, Z and N follow it; TXS copies X to SP and writes no flag; nothing else changes but PC and cycles. (R237, R238, R239, R240, R241, R242, R302, R303, R304, R305) -/
def Obligations.RegisterInstructions : Prop :=
  ImpliedAs documented (fun t => withZN t.a { t with x := t.a }) .tax 0xAA 2 ∧
  ImpliedAs documented (fun t => withZN t.a { t with y := t.a }) .tay 0xA8 2 ∧
  ImpliedAs documented (fun t => withZN t.x { t with a := t.x }) .txa 0x8A 2 ∧
  ImpliedAs documented (fun t => withZN t.y { t with a := t.y }) .tya 0x98 2 ∧
  ImpliedAs documented (fun t => withZN t.sp { t with x := t.sp }) .tsx 0xBA 2 ∧
  ImpliedAs documented (fun t => { t with sp := t.x }) .txs 0x9A 2 ∧
  ImpliedAs documented (fun t => withZN (BitVec.ofNat 8 (t.x.toNat + 1)) { t with x := BitVec.ofNat 8 (t.x.toNat + 1) }) .inx 0xE8 2 ∧
  ImpliedAs documented (fun t => withZN (BitVec.ofNat 8 (t.y.toNat + 1)) { t with y := BitVec.ofNat 8 (t.y.toNat + 1) }) .iny 0xC8 2 ∧
  ImpliedAs documented (fun t => withZN (BitVec.ofNat 8 (t.x.toNat + 255)) { t with x := BitVec.ofNat 8 (t.x.toNat + 255) }) .dex 0xCA 2 ∧
  ImpliedAs documented (fun t => withZN (BitVec.ofNat 8 (t.y.toNat + 255)) { t with y := BitVec.ofNat 8 (t.y.toNat + 255) }) .dey 0x88 2

/-- PHA pushes A and PHP the status byte with bits 5 and 4 set, in 3 cycles; PLA pulls A and sets Z and N from it, PLP pulls the flags with B forced to 0 and U to 1, in 4 cycles; SP wraps, and nothing else changes but PC and cycles. They complete in every state. (R260, R261, R262, R263) -/
def Obligations.StackInstructions : Prop :=
  opcodeOf .pha = 0x48 ∧ opcodeOf .php = 0x08 ∧ opcodeOf .pla = 0x68 ∧ opcodeOf .plp = 0x28 ∧
  ∀ s : State,
    let status := 128 * s.p.n.toNat + 64 * s.p.v.toNat + 48 + 8 * s.p.d.toNat + 4 * s.p.i.toNat + 2 * s.p.z.toNat +
      s.p.c.toNat
    let top := Memory.read s.ram (0x100 + (s.sp.toNat + 1) % 256)
    exec .pha s = .next { s with
      ram := Memory.write s.ram (0x100 + s.sp.toNat) s.a, sp := s.sp - 1, pc := s.pc + 1, cycles := s.cycles + 3 } ∧
    exec .php s = .next { s with
      ram := Memory.write s.ram (0x100 + s.sp.toNat) (BitVec.ofNat 8 status), sp := s.sp - 1, pc := s.pc + 1
      cycles := s.cycles + 3 } ∧
    exec .pla s = .next { s with
      a := top, sp := s.sp + 1, p := { s.p with z := decide (top = 0), n := top.getLsbD 7 }, pc := s.pc + 1
      cycles := s.cycles + 4 } ∧
    exec .plp s = .next { s with
      sp := s.sp + 1, pc := s.pc + 1, cycles := s.cycles + 4
      p := { n := top.getLsbD 7, v := top.getLsbD 6, u := true, b := false, d := top.getLsbD 3, i := top.getLsbD 2
             z := top.getLsbD 1, c := top.getLsbD 0 } }

/-- AddCore is the sum mod 256 with the unsigned overflow as carry and the signed overflow as V. Every form of ADC, with opcode byte, base cycles and page penalty, completes when its operand is readable: A takes A + M + C mod 256 with C, V, Z and N; every form of SBC takes A - M - (1 - C) mod 256, C being the absence of a borrow and V the signed overflow; P.D has no effect; at an unmapped address they fault. (R270, R271, R272) -/
def Obligations.AddAndSubtract : Prop :=
  (∀ (x y : Byte) (c : Bool), addCore x y c =
    ⟨BitVec.ofNat 8 (x.toNat + y.toNat + c.toNat), decide (255 < x.toNat + y.toNat + c.toNat),
      decide (x.toInt + y.toInt + c.toNat < -128 ∨ 127 < x.toInt + y.toInt + c.toNat)⟩) ∧
  ∀ (b : Byte) (w : Addr),
  ReadsAs documented sumEffect (.adcIzx b) 0x61 6 (.mem (.izx b)) ∧
  ReadsAs documented sumEffect (.adcZp b) 0x65 3 (.mem (.zp b)) ∧
  ReadsAs documented sumEffect (.adcImm b) 0x69 2 (.imm b) ∧
  ReadsAs documented sumEffect (.adcAbs w) 0x6D 4 (.mem (.abs w)) ∧
  ReadsAs documented sumEffect (.adcIzy b) 0x71 5 (.mem (.izy b)) ∧
  ReadsAs documented sumEffect (.adcZpx b) 0x75 4 (.mem (.zpx b)) ∧
  ReadsAs documented sumEffect (.adcAby w) 0x79 4 (.mem (.aby w)) ∧
  ReadsAs documented sumEffect (.adcAbx w) 0x7D 4 (.mem (.abx w)) ∧
  ReadsAs documented differenceEffect (.sbcIzx b) 0xE1 6 (.mem (.izx b)) ∧
  ReadsAs documented differenceEffect (.sbcZp b) 0xE5 3 (.mem (.zp b)) ∧
  ReadsAs documented differenceEffect (.sbcImm b) 0xE9 2 (.imm b) ∧
  ReadsAs documented differenceEffect (.sbcAbs w) 0xED 4 (.mem (.abs w)) ∧
  ReadsAs documented differenceEffect (.sbcIzy b) 0xF1 5 (.mem (.izy b)) ∧
  ReadsAs documented differenceEffect (.sbcZpx b) 0xF5 4 (.mem (.zpx b)) ∧
  ReadsAs documented differenceEffect (.sbcAby w) 0xF9 4 (.mem (.aby w)) ∧
  ReadsAs documented differenceEffect (.sbcAbx w) 0xFD 4 (.mem (.abx w))

/-- Every form of AND, ORA and EOR, with opcode byte, base cycles and page penalty, completes when its operand is readable: A takes the bitwise result and Z and N follow it; BIT sets Z from A & M and V and N from bits 6 and 7 of M and leaves A; at an unmapped address they fault. (R274, R275, R276, R277) -/
def Obligations.LogicAndBitTest : Prop :=
  ∀ (b : Byte) (w : Addr),
  let land := fun (m : Byte) (t : State) => withZN (t.a &&& m) { t with a := t.a &&& m }
  let lor := fun (m : Byte) (t : State) => withZN (t.a ||| m) { t with a := t.a ||| m }
  let lxor := fun (m : Byte) (t : State) => withZN (t.a ^^^ m) { t with a := t.a ^^^ m }
  let test := fun (m : Byte) (t : State) =>
    { t with p := { t.p with z := decide (t.a &&& m = 0), v := m.getLsbD 6, n := m.getLsbD 7 } }
  ReadsAs documented land (.andIzx b) 0x21 6 (.mem (.izx b)) ∧
  ReadsAs documented land (.andZp b) 0x25 3 (.mem (.zp b)) ∧
  ReadsAs documented land (.andImm b) 0x29 2 (.imm b) ∧
  ReadsAs documented land (.andAbs w) 0x2D 4 (.mem (.abs w)) ∧
  ReadsAs documented land (.andIzy b) 0x31 5 (.mem (.izy b)) ∧
  ReadsAs documented land (.andZpx b) 0x35 4 (.mem (.zpx b)) ∧
  ReadsAs documented land (.andAby w) 0x39 4 (.mem (.aby w)) ∧
  ReadsAs documented land (.andAbx w) 0x3D 4 (.mem (.abx w)) ∧
  ReadsAs documented lor (.oraIzx b) 0x01 6 (.mem (.izx b)) ∧
  ReadsAs documented lor (.oraZp b) 0x05 3 (.mem (.zp b)) ∧
  ReadsAs documented lor (.oraImm b) 0x09 2 (.imm b) ∧
  ReadsAs documented lor (.oraAbs w) 0x0D 4 (.mem (.abs w)) ∧
  ReadsAs documented lor (.oraIzy b) 0x11 5 (.mem (.izy b)) ∧
  ReadsAs documented lor (.oraZpx b) 0x15 4 (.mem (.zpx b)) ∧
  ReadsAs documented lor (.oraAby w) 0x19 4 (.mem (.aby w)) ∧
  ReadsAs documented lor (.oraAbx w) 0x1D 4 (.mem (.abx w)) ∧
  ReadsAs documented lxor (.eorIzx b) 0x41 6 (.mem (.izx b)) ∧
  ReadsAs documented lxor (.eorZp b) 0x45 3 (.mem (.zp b)) ∧
  ReadsAs documented lxor (.eorImm b) 0x49 2 (.imm b) ∧
  ReadsAs documented lxor (.eorAbs w) 0x4D 4 (.mem (.abs w)) ∧
  ReadsAs documented lxor (.eorIzy b) 0x51 5 (.mem (.izy b)) ∧
  ReadsAs documented lxor (.eorZpx b) 0x55 4 (.mem (.zpx b)) ∧
  ReadsAs documented lxor (.eorAby w) 0x59 4 (.mem (.aby w)) ∧
  ReadsAs documented lxor (.eorAbx w) 0x5D 4 (.mem (.abx w)) ∧
  ReadsAs documented test (.bitZp b) 0x24 3 (.mem (.zp b)) ∧
  ReadsAs documented test (.bitAbs w) 0x2C 4 (.mem (.abs w))

/-- Every form of CMP, CPX and CPY, with opcode byte, base cycles and page penalty, completes when its operand is readable: C is register >= M, Z register = M, N bit 7 of the difference mod 256; V and every register but PC keep their values; at an unmapped address they fault. (R278, R279, R280, R281) -/
def Obligations.Compares : Prop :=
  ∀ (b : Byte) (w : Addr),
  let cmp := fun (m : Byte) (t : State) => compareEffect t.a m t
  let cpx := fun (m : Byte) (t : State) => compareEffect t.x m t
  let cpy := fun (m : Byte) (t : State) => compareEffect t.y m t
  ReadsAs documented cmp (.cmpIzx b) 0xC1 6 (.mem (.izx b)) ∧
  ReadsAs documented cmp (.cmpZp b) 0xC5 3 (.mem (.zp b)) ∧
  ReadsAs documented cmp (.cmpImm b) 0xC9 2 (.imm b) ∧
  ReadsAs documented cmp (.cmpAbs w) 0xCD 4 (.mem (.abs w)) ∧
  ReadsAs documented cmp (.cmpIzy b) 0xD1 5 (.mem (.izy b)) ∧
  ReadsAs documented cmp (.cmpZpx b) 0xD5 4 (.mem (.zpx b)) ∧
  ReadsAs documented cmp (.cmpAby w) 0xD9 4 (.mem (.aby w)) ∧
  ReadsAs documented cmp (.cmpAbx w) 0xDD 4 (.mem (.abx w)) ∧
  ReadsAs documented cpx (.cpxImm b) 0xE0 2 (.imm b) ∧
  ReadsAs documented cpx (.cpxZp b) 0xE4 3 (.mem (.zp b)) ∧
  ReadsAs documented cpx (.cpxAbs w) 0xEC 4 (.mem (.abs w)) ∧
  ReadsAs documented cpy (.cpyImm b) 0xC0 2 (.imm b) ∧
  ReadsAs documented cpy (.cpyZp b) 0xC4 3 (.mem (.zp b)) ∧
  ReadsAs documented cpy (.cpyAbs w) 0xCC 4 (.mem (.abs w))

/-- Every memory form of INC, DEC, ASL, LSR, ROL and ROR, with opcode byte and base cycles, completes when its address is mapped and its write does not fault: it reads M once, writes the result once at the same address, C takes the bit shifted out (INC and DEC keep it), and Z and N follow the result; the accumulator forms do the same to A; at an unmapped address they fault at the read, and where the result written to 0x4014 is a page from 0x40 to 0x5F they stop at the OAM DMA read that faults, with PC and cycles advanced and C written. (R300, R301, R306, R307, R308, R309) -/
def Obligations.IncrementsAndShifts : Prop :=
  ∀ (b : Byte) (w : Addr),
  let asl : Byte → Bool → Byte := fun m _ => BitVec.ofNat 8 (2 * m.toNat)
  let lsr : Byte → Bool → Byte := fun m _ => BitVec.ofNat 8 (m.toNat / 2)
  let rol : Byte → Bool → Byte := fun m c => BitVec.ofNat 8 (2 * m.toNat + c.toNat)
  let ror : Byte → Bool → Byte := fun m c => BitVec.ofNat 8 (m.toNat / 2 + 128 * c.toNat)
  let bit7 : Byte → Bool → Bool := fun m _ => m.getLsbD 7
  let bit0 : Byte → Bool → Bool := fun m _ => m.getLsbD 0
  let onA := fun (f : Byte → Bool → Byte) (c : Byte → Bool → Bool) (t : State) =>
    withZN (f t.a t.p.c) { t with a := f t.a t.p.c, p := { t.p with c := c t.a t.p.c } }
  ModifiesAs documented (fun m _ => BitVec.ofNat 8 (m.toNat + 1)) (fun _ c => c) withZN (.incZp b) 0xE6 5 (.zp b) ∧
  ModifiesAs documented (fun m _ => BitVec.ofNat 8 (m.toNat + 1)) (fun _ c => c) withZN (.incAbs w) 0xEE 6 (.abs w) ∧
  ModifiesAs documented (fun m _ => BitVec.ofNat 8 (m.toNat + 1)) (fun _ c => c) withZN (.incZpx b) 0xF6 6 (.zpx b) ∧
  ModifiesAs documented (fun m _ => BitVec.ofNat 8 (m.toNat + 1)) (fun _ c => c) withZN (.incAbx w) 0xFE 7 (.abx w) ∧
  ModifiesAs documented (fun m _ => BitVec.ofNat 8 (m.toNat + 255)) (fun _ c => c) withZN (.decZp b) 0xC6 5 (.zp b) ∧
  ModifiesAs documented (fun m _ => BitVec.ofNat 8 (m.toNat + 255)) (fun _ c => c) withZN (.decAbs w) 0xCE 6 (.abs w) ∧
  ModifiesAs documented (fun m _ => BitVec.ofNat 8 (m.toNat + 255)) (fun _ c => c) withZN (.decZpx b) 0xD6 6 (.zpx b) ∧
  ModifiesAs documented (fun m _ => BitVec.ofNat 8 (m.toNat + 255)) (fun _ c => c) withZN (.decAbx w) 0xDE 7 (.abx w) ∧
  ImpliedAs documented (onA asl bit7) .aslAcc 0x0A 2 ∧
  ModifiesAs documented asl bit7 withZN (.aslZp b) 0x06 5 (.zp b) ∧
  ModifiesAs documented asl bit7 withZN (.aslAbs w) 0x0E 6 (.abs w) ∧
  ModifiesAs documented asl bit7 withZN (.aslZpx b) 0x16 6 (.zpx b) ∧
  ModifiesAs documented asl bit7 withZN (.aslAbx w) 0x1E 7 (.abx w) ∧
  ImpliedAs documented (onA lsr bit0) .lsrAcc 0x4A 2 ∧
  ModifiesAs documented lsr bit0 withZN (.lsrZp b) 0x46 5 (.zp b) ∧
  ModifiesAs documented lsr bit0 withZN (.lsrAbs w) 0x4E 6 (.abs w) ∧
  ModifiesAs documented lsr bit0 withZN (.lsrZpx b) 0x56 6 (.zpx b) ∧
  ModifiesAs documented lsr bit0 withZN (.lsrAbx w) 0x5E 7 (.abx w) ∧
  ImpliedAs documented (onA rol bit7) .rolAcc 0x2A 2 ∧
  ModifiesAs documented rol bit7 withZN (.rolZp b) 0x26 5 (.zp b) ∧
  ModifiesAs documented rol bit7 withZN (.rolAbs w) 0x2E 6 (.abs w) ∧
  ModifiesAs documented rol bit7 withZN (.rolZpx b) 0x36 6 (.zpx b) ∧
  ModifiesAs documented rol bit7 withZN (.rolAbx w) 0x3E 7 (.abx w) ∧
  ImpliedAs documented (onA ror bit0) .rorAcc 0x6A 2 ∧
  ModifiesAs documented ror bit0 withZN (.rorZp b) 0x66 5 (.zp b) ∧
  ModifiesAs documented ror bit0 withZN (.rorAbs w) 0x6E 6 (.abs w) ∧
  ModifiesAs documented ror bit0 withZN (.rorZpx b) 0x76 6 (.zpx b) ∧
  ModifiesAs documented ror bit0 withZN (.rorAbx w) 0x7E 7 (.abx w)

/-- BPL, BMI, BVC, BVS, BCC, BCS, BNE and BEQ always complete: not taken they go to PC + 2 in 2 cycles; taken they go to PC + 2 plus the signed offset mod 2^16, in 3 cycles, or 4 when the target lies in another page than PC + 2; no flag, register or memory byte changes. (R204, R220, R320, R321, R322, R323, R324, R325, R326, R327, R328) -/
def Obligations.Branches : Prop :=
  BranchesAs (fun p => !p.n) .bpl 0x10 ∧
  BranchesAs (fun p => p.n) .bmi 0x30 ∧
  BranchesAs (fun p => !p.v) .bvc 0x50 ∧
  BranchesAs (fun p => p.v) .bvs 0x70 ∧
  BranchesAs (fun p => !p.c) .bcc 0x90 ∧
  BranchesAs (fun p => p.c) .bcs 0xB0 ∧
  BranchesAs (fun p => !p.z) .bne 0xD0 ∧
  BranchesAs (fun p => p.z) .beq 0xF0

/-- JMP abs always completes in 3 cycles. JMP ind completes in 5 when its two pointer addresses are mapped; the high byte comes from the page of the low byte; it faults at the first of the two that is unmapped. JSR always completes in 6: it pushes the address of its last byte, high byte first, and goes to its operand. RTS always completes in 6: it pulls a word and goes to it plus 1. Nothing else changes. (R329, R330, R331) -/
def Obligations.JumpsAndSubroutines : Prop :=
  opcodeOf (.jmpAbs 0) = 0x4C ∧ opcodeOf (.jmpInd 0) = 0x6C ∧ opcodeOf (.jsrAbs 0) = 0x20 ∧ opcodeOf .rts = 0x60 ∧
  ∀ (w : Addr) (s : State),
    let second := BitVec.ofNat 16 (256 * (w.toNat / 256) + (w.toNat + 1) % 256)
    let s1 := readEffect w s
    let s2 := readEffect second s1
    let last := s.pc + 2
    exec (.jmpAbs w) s = .next { s with pc := w, cycles := s.cycles + 3 } ∧
    (unmapped w = false → unmapped second = false → exec (.jmpInd w) s = .next { s2 with
      pc := BitVec.ofNat 16 ((readValue w s).toNat + 256 * (readValue second s1).toNat), cycles := s.cycles + 5 }) ∧
    (unmapped w = true → exec (.jmpInd w) s = .fault (raiseUnmapped w .read s)) ∧
    (unmapped w = false → unmapped second = true → exec (.jmpInd w) s = .fault (raiseUnmapped second .read s1)) ∧
    exec (.jsrAbs w) s = .next { s with
      ram := Memory.write (Memory.write s.ram (0x100 + s.sp.toNat) (BitVec.ofNat 8 (last.toNat / 256)))
        (0x100 + (s.sp - 1).toNat) (BitVec.ofNat 8 (last.toNat % 256))
      sp := s.sp - 2, pc := w, cycles := s.cycles + 6 } ∧
    exec .rts s = .next { s with
      sp := s.sp + 2, cycles := s.cycles + 6
      pc := BitVec.ofNat 16 ((Memory.read s.ram (0x100 + (s.sp.toNat + 1) % 256)).toNat +
        256 * (Memory.read s.ram (0x100 + (s.sp.toNat + 2) % 256)).toNat + 1) }

/-- BRK always completes in 7 cycles: it pushes its address + 2, high byte first, and the status byte with bits 4 and 5 set, sets P.I and goes to the word at 0xFFFE. RTI always completes in 6: it pulls the flags, B forced to 0 and U to 1, and then PC. Nothing else changes. (R332, R333) -/
def Obligations.BrkAndRti : Prop :=
  opcodeOf .brk = 0x00 ∧ opcodeOf .rti = 0x40 ∧
  ∀ s : State,
    let ret := s.pc + 2
    let pulled := fun k : Nat => Memory.read s.ram (0x100 + (s.sp.toNat + k) % 256)
    exec .brk s = .next { s with
      ram := Memory.write (Memory.write (Memory.write s.ram (0x100 + s.sp.toNat) (BitVec.ofNat 8 (ret.toNat / 256)))
        (0x100 + (s.sp - 1).toNat) (BitVec.ofNat 8 (ret.toNat % 256))) (0x100 + (s.sp - 2).toNat) (s.p.toByte ||| 0x30#8)
      sp := s.sp - 3, p := { s.p with i := true }, cycles := s.cycles + 7
      pc := BitVec.ofNat 16 ((readValue 0xFFFE s).toNat + 256 * (readValue 0xFFFF s).toNat) } ∧
    exec .rti s = .next { s with
      sp := s.sp + 3, cycles := s.cycles + 6
      p := { n := (pulled 1).getLsbD 7, v := (pulled 1).getLsbD 6, u := true, b := false, d := (pulled 1).getLsbD 3
             i := (pulled 1).getLsbD 2, z := (pulled 1).getLsbD 1, c := (pulled 1).getLsbD 0 }
      pc := BitVec.ofNat 16 ((pulled 2).toNat + 256 * (pulled 3).toNat) }

/-- CLC, SEC, CLI, SEI, CLD, SED and CLV always complete in 2 cycles, writing their one flag; the documented NOP changes PC and cycles only. (R350, R351, R352, R353, R354, R355, R356, R357) -/
def Obligations.FlagInstructions : Prop :=
  ImpliedAs documented (fun t => { t with p := { t.p with c := false } }) .clc 0x18 2 ∧
  ImpliedAs documented (fun t => { t with p := { t.p with c := true } }) .sec 0x38 2 ∧
  ImpliedAs documented (fun t => { t with p := { t.p with i := false } }) .cli 0x58 2 ∧
  ImpliedAs documented (fun t => { t with p := { t.p with i := true } }) .sei 0x78 2 ∧
  ImpliedAs documented (fun t => { t with p := { t.p with d := false } }) .cld 0xD8 2 ∧
  ImpliedAs documented (fun t => { t with p := { t.p with d := true } }) .sed 0xF8 2 ∧
  ImpliedAs documented (fun t => { t with p := { t.p with v := false } }) .clv 0xB8 2 ∧
  ImpliedAs documented (fun t => t) .nop 0xEA 2

/-- Under UNOFFICIAL_OPCODES = nestest, with opcode byte, base cycles and page penalty: the implied NOPs change PC and cycles only; the other NOPs and LAX read their operand, with its side effects, NOP discarding it and LAX loading A and X and setting Z and N; SAX writes A & X and no flag; SBC EB subtracts its operand; an unmapped address faults, and a page from 0x40 to 0x5F that SAX writes to 0x4014 stops it at the OAM DMA read that faults, both with PC and cycles advanced. (R371, R372, R373, R374) -/
def Obligations.UnofficialReadsAndStores : Prop :=
  ∀ (b : Byte) (w : Addr),
  let nop := fun (_ : Byte) (t : State) => t
  let lax := fun (m : Byte) (t : State) => withZN m { t with a := m, x := m }
  ImpliedAs unofficialOn (fun t => t) .nop1A 0x1A 2 ∧
  ImpliedAs unofficialOn (fun t => t) .nop3A 0x3A 2 ∧
  ImpliedAs unofficialOn (fun t => t) .nop5A 0x5A 2 ∧
  ImpliedAs unofficialOn (fun t => t) .nop7A 0x7A 2 ∧
  ImpliedAs unofficialOn (fun t => t) .nopDA 0xDA 2 ∧
  ImpliedAs unofficialOn (fun t => t) .nopFA 0xFA 2 ∧
  ReadsAs unofficialOn nop (.nop04 b) 0x04 3 (.mem (.zp b)) ∧
  ReadsAs unofficialOn nop (.nop0C w) 0x0C 4 (.mem (.abs w)) ∧
  ReadsAs unofficialOn nop (.nop14 b) 0x14 4 (.mem (.zpx b)) ∧
  ReadsAs unofficialOn nop (.nop1C w) 0x1C 4 (.mem (.abx w)) ∧
  ReadsAs unofficialOn nop (.nop34 b) 0x34 4 (.mem (.zpx b)) ∧
  ReadsAs unofficialOn nop (.nop3C w) 0x3C 4 (.mem (.abx w)) ∧
  ReadsAs unofficialOn nop (.nop44 b) 0x44 3 (.mem (.zp b)) ∧
  ReadsAs unofficialOn nop (.nop54 b) 0x54 4 (.mem (.zpx b)) ∧
  ReadsAs unofficialOn nop (.nop5C w) 0x5C 4 (.mem (.abx w)) ∧
  ReadsAs unofficialOn nop (.nop64 b) 0x64 3 (.mem (.zp b)) ∧
  ReadsAs unofficialOn nop (.nop74 b) 0x74 4 (.mem (.zpx b)) ∧
  ReadsAs unofficialOn nop (.nop7C w) 0x7C 4 (.mem (.abx w)) ∧
  ReadsAs unofficialOn nop (.nop80 b) 0x80 2 (.imm b) ∧
  ReadsAs unofficialOn nop (.nop82 b) 0x82 2 (.imm b) ∧
  ReadsAs unofficialOn nop (.nop89 b) 0x89 2 (.imm b) ∧
  ReadsAs unofficialOn nop (.nopC2 b) 0xC2 2 (.imm b) ∧
  ReadsAs unofficialOn nop (.nopD4 b) 0xD4 4 (.mem (.zpx b)) ∧
  ReadsAs unofficialOn nop (.nopDC w) 0xDC 4 (.mem (.abx w)) ∧
  ReadsAs unofficialOn nop (.nopE2 b) 0xE2 2 (.imm b) ∧
  ReadsAs unofficialOn nop (.nopF4 b) 0xF4 4 (.mem (.zpx b)) ∧
  ReadsAs unofficialOn nop (.nopFC w) 0xFC 4 (.mem (.abx w)) ∧
  ReadsAs unofficialOn lax (.laxIzx b) 0xA3 6 (.mem (.izx b)) ∧
  ReadsAs unofficialOn lax (.laxZp b) 0xA7 3 (.mem (.zp b)) ∧
  ReadsAs unofficialOn lax (.laxAbs w) 0xAF 4 (.mem (.abs w)) ∧
  ReadsAs unofficialOn lax (.laxIzy b) 0xB3 5 (.mem (.izy b)) ∧
  ReadsAs unofficialOn lax (.laxZpy b) 0xB7 4 (.mem (.zpy b)) ∧
  ReadsAs unofficialOn lax (.laxAby w) 0xBF 4 (.mem (.aby w)) ∧
  WritesAs unofficialOn (fun s => s.a &&& s.x) (.saxIzx b) 0x83 6 (.izx b) ∧
  WritesAs unofficialOn (fun s => s.a &&& s.x) (.saxZp b) 0x87 3 (.zp b) ∧
  WritesAs unofficialOn (fun s => s.a &&& s.x) (.saxAbs w) 0x8F 4 (.abs w) ∧
  WritesAs unofficialOn (fun s => s.a &&& s.x) (.saxZpy b) 0x97 4 (.zpy b) ∧
  ReadsAs unofficialOn differenceEffect (.sbcImmEB b) 0xEB 2 (.imm b)

/-- Under UNOFFICIAL_OPCODES = nestest, every form of DCP, ISB, SLO, RLA, SRE and RRA, with opcode byte and base cycles, completes when its address is mapped and its write does not fault: it reads M once, writes the result at the same address and then compares A with it, subtracts it from A, ORs, ANDs or EORs it into A, or adds it to A with the carry of the rotate, with the flags of those; at an unmapped address it faults at the read, and where the result written to 0x4014 is a page from 0x40 to 0x5F it stops at the OAM DMA read that faults, with PC and cycles advanced and the carry of the shift or rotate written. (R375, R376, R377, R378, R379, R380) -/
def Obligations.UnofficialModify : Prop :=
  ∀ (b : Byte) (w : Addr),
  let asl : Byte → Bool → Byte := fun m _ => BitVec.ofNat 8 (2 * m.toNat)
  let lsr : Byte → Bool → Byte := fun m _ => BitVec.ofNat 8 (m.toNat / 2)
  let rol : Byte → Bool → Byte := fun m c => BitVec.ofNat 8 (2 * m.toNat + c.toNat)
  let ror : Byte → Bool → Byte := fun m c => BitVec.ofNat 8 (m.toNat / 2 + 128 * c.toNat)
  let bit7 : Byte → Bool → Bool := fun m _ => m.getLsbD 7
  let bit0 : Byte → Bool → Bool := fun m _ => m.getLsbD 0
  let dec : Byte → Bool → Byte := fun m _ => BitVec.ofNat 8 (m.toNat + 255)
  let inc : Byte → Bool → Byte := fun m _ => BitVec.ofNat 8 (m.toNat + 1)
  let keep : Byte → Bool → Bool := fun _ c => c
  let dcp : Byte → State → State := fun r t => compareEffect t.a r t
  let slo : Byte → State → State := fun r t => withZN (t.a ||| r) { t with a := t.a ||| r }
  let rla : Byte → State → State := fun r t => withZN (t.a &&& r) { t with a := t.a &&& r }
  let sre : Byte → State → State := fun r t => withZN (t.a ^^^ r) { t with a := t.a ^^^ r }
  ModifiesAs unofficialOn dec keep dcp (.dcpIzx b) 0xC3 8 (.izx b) ∧
  ModifiesAs unofficialOn dec keep dcp (.dcpZp b) 0xC7 5 (.zp b) ∧
  ModifiesAs unofficialOn dec keep dcp (.dcpAbs w) 0xCF 6 (.abs w) ∧
  ModifiesAs unofficialOn dec keep dcp (.dcpIzy b) 0xD3 8 (.izy b) ∧
  ModifiesAs unofficialOn dec keep dcp (.dcpZpx b) 0xD7 6 (.zpx b) ∧
  ModifiesAs unofficialOn dec keep dcp (.dcpAby w) 0xDB 7 (.aby w) ∧
  ModifiesAs unofficialOn dec keep dcp (.dcpAbx w) 0xDF 7 (.abx w) ∧
  ModifiesAs unofficialOn inc keep differenceEffect (.isbIzx b) 0xE3 8 (.izx b) ∧
  ModifiesAs unofficialOn inc keep differenceEffect (.isbZp b) 0xE7 5 (.zp b) ∧
  ModifiesAs unofficialOn inc keep differenceEffect (.isbAbs w) 0xEF 6 (.abs w) ∧
  ModifiesAs unofficialOn inc keep differenceEffect (.isbIzy b) 0xF3 8 (.izy b) ∧
  ModifiesAs unofficialOn inc keep differenceEffect (.isbZpx b) 0xF7 6 (.zpx b) ∧
  ModifiesAs unofficialOn inc keep differenceEffect (.isbAby w) 0xFB 7 (.aby w) ∧
  ModifiesAs unofficialOn inc keep differenceEffect (.isbAbx w) 0xFF 7 (.abx w) ∧
  ModifiesAs unofficialOn asl bit7 slo (.sloIzx b) 0x03 8 (.izx b) ∧
  ModifiesAs unofficialOn asl bit7 slo (.sloZp b) 0x07 5 (.zp b) ∧
  ModifiesAs unofficialOn asl bit7 slo (.sloAbs w) 0x0F 6 (.abs w) ∧
  ModifiesAs unofficialOn asl bit7 slo (.sloIzy b) 0x13 8 (.izy b) ∧
  ModifiesAs unofficialOn asl bit7 slo (.sloZpx b) 0x17 6 (.zpx b) ∧
  ModifiesAs unofficialOn asl bit7 slo (.sloAby w) 0x1B 7 (.aby w) ∧
  ModifiesAs unofficialOn asl bit7 slo (.sloAbx w) 0x1F 7 (.abx w) ∧
  ModifiesAs unofficialOn rol bit7 rla (.rlaIzx b) 0x23 8 (.izx b) ∧
  ModifiesAs unofficialOn rol bit7 rla (.rlaZp b) 0x27 5 (.zp b) ∧
  ModifiesAs unofficialOn rol bit7 rla (.rlaAbs w) 0x2F 6 (.abs w) ∧
  ModifiesAs unofficialOn rol bit7 rla (.rlaIzy b) 0x33 8 (.izy b) ∧
  ModifiesAs unofficialOn rol bit7 rla (.rlaZpx b) 0x37 6 (.zpx b) ∧
  ModifiesAs unofficialOn rol bit7 rla (.rlaAby w) 0x3B 7 (.aby w) ∧
  ModifiesAs unofficialOn rol bit7 rla (.rlaAbx w) 0x3F 7 (.abx w) ∧
  ModifiesAs unofficialOn lsr bit0 sre (.sreIzx b) 0x43 8 (.izx b) ∧
  ModifiesAs unofficialOn lsr bit0 sre (.sreZp b) 0x47 5 (.zp b) ∧
  ModifiesAs unofficialOn lsr bit0 sre (.sreAbs w) 0x4F 6 (.abs w) ∧
  ModifiesAs unofficialOn lsr bit0 sre (.sreIzy b) 0x53 8 (.izy b) ∧
  ModifiesAs unofficialOn lsr bit0 sre (.sreZpx b) 0x57 6 (.zpx b) ∧
  ModifiesAs unofficialOn lsr bit0 sre (.sreAby w) 0x5B 7 (.aby w) ∧
  ModifiesAs unofficialOn lsr bit0 sre (.sreAbx w) 0x5F 7 (.abx w) ∧
  ModifiesAs unofficialOn ror bit0 sumEffect (.rraIzx b) 0x63 8 (.izx b) ∧
  ModifiesAs unofficialOn ror bit0 sumEffect (.rraZp b) 0x67 5 (.zp b) ∧
  ModifiesAs unofficialOn ror bit0 sumEffect (.rraAbs w) 0x6F 6 (.abs w) ∧
  ModifiesAs unofficialOn ror bit0 sumEffect (.rraIzy b) 0x73 8 (.izy b) ∧
  ModifiesAs unofficialOn ror bit0 sumEffect (.rraZpx b) 0x77 6 (.zpx b) ∧
  ModifiesAs unofficialOn ror bit0 sumEffect (.rraAby w) 0x7B 7 (.aby w) ∧
  ModifiesAs unofficialOn ror bit0 sumEffect (.rraAbx w) 0x7F 7 (.abx w)

/-- When an instruction answers a next state, A, X, Y, SP and each flag are unchanged unless the flag summary of R38 or the rules of R31 and R34 to R36 name the instruction as a writer of it; the NMI latch, the IRQ level, the fault record, PRG ROM, the mirroring, the cartridge, the buttons and the parameters are unchanged by every instruction. That the IRQ level (R42, log 4) and the parameters (R10, log 3) are fields that no instruction changes is the model's choice. (spec/10_state.md R31, spec/10_state.md R34, spec/10_state.md R35, spec/10_state.md R36, spec/10_state.md R38, spec/10_state.md R65, spec/62_mapper_devices.md R559, spec/10_state.md R42, spec/00_scope.md R10, log 3, log 4) -/
def Obligations.RegisterFrame : Prop :=
  ∀ (i : Instr) (s t : State), exec i s = .next t →
    (i.writesA = false → t.a = s.a) ∧ (i.writesX = false → t.x = s.x) ∧ (i.writesY = false → t.y = s.y) ∧
    (i.writesSP = false → t.sp = s.sp) ∧ (i.writesC = false → t.p.c = s.p.c) ∧ (i.writesZ = false → t.p.z = s.p.z) ∧
    (i.writesN = false → t.p.n = s.p.n) ∧ (i.writesV = false → t.p.v = s.p.v) ∧ (i.writesI = false → t.p.i = s.p.i) ∧
    (i.writesD = false → t.p.d = s.p.d) ∧ (i.forcesBU = false → t.p.b = s.p.b ∧ t.p.u = s.p.u) ∧
    t.nmiPending = s.nmiPending ∧ t.irq = s.irq ∧ t.fault = s.fault ∧ t.prgRom = s.prgRom ∧ t.mirror = s.mirror ∧
    t.cart = s.cart ∧ t.cfg = s.cfg ∧ t.pads.buttons1 = s.pads.buttons1 ∧ t.pads.buttons2 = s.pads.buttons2

/-- When an instruction answers a next state, every byte of work RAM, PRG-RAM, PRG ROM, CHR, OAM, the palette and the nametables reads as before, except the place a write instruction or a read-modify-write instruction writes at its effective address (through a PPU register: the OAM, CHR-RAM, nametable or palette byte the register names; through 0x4014: OAM), and the stack bytes that PHA, PHP, JSR and BRK push. (spec/40_step_addressing.md R221, spec/20_memory.md R102, spec/00_scope.md R15, spec/61_ppu.md R463, spec/61_ppu.md R466, spec/61_ppu.md R473, spec/62_mapper_devices.md R553) -/
def Obligations.MemoryFrame : Prop :=
  ∀ (i : Instr) (s t : State) (c : Place), exec i s = .next t → touches i s c = false → readPlace c t = readPlace c s

/-- When an instruction answers a next state and none of its data addresses lies in 0x2000-0x401F, the PPU, the controllers and the stall are unchanged; when none lies in 0x8000-0xFFFF, the bank windows are unchanged. (spec/20_memory.md R101, spec/20_memory.md R102, spec/20_memory.md R109) -/
def Obligations.DeviceFrame : Prop :=
  ∀ (i : Instr) (s t : State), exec i s = .next t →
    ((∀ a ∈ dataAddresses i s, a.toNat < 0x2000 ∨ 0x4020 ≤ a.toNat) →
      t.ppu = s.ppu ∧ t.pads = s.pads ∧ t.stall = s.stall) ∧
    ((∀ a ∈ dataAddresses i s, a.toNat < 0x8000) → t.map = s.map)

/-- From every state in which the bank windows have the sizes and lengths of mappers 0, 2 and 3 and name banks that exist, the mapper has no own registers, and every memory is in canonical form with nothing listed at or above its size, a step that answers a next state gives such a state. The canonical form (addresses rising, no zero listed) is the model's choice of representation (log 2). (spec/10_state.md R44, spec/10_state.md R45, spec/10_state.md R46, spec/10_state.md R47, spec/10_state.md R48, spec/10_state.md R49, spec/10_state.md R62, spec/62_mapper_devices.md R550, spec/62_mapper_devices.md R569, log 2) -/
def Obligations.MemoryInvariant : Prop :=
  ∀ s t : State, MemoryInv s → step s = .next t → MemoryInv t

/-- From every state in which P.B is 0 and P.U is 1, a step that answers a next state gives such a state. (spec/10_state.md R36, spec/10_state.md R37) -/
def Obligations.StatusInvariant : Prop :=
  ∀ s t : State, StatusInv s → step s = .next t → StatusInv t

/-- From every state in which the PPU cycle is at most 340 and the scanline at most 261, the odd flag is the parity of the frame counter, nmi_previous is PPUCTRL bit 7 and vblank, the NMI delay is at most NMI_DELAY_TICKS, the attribute bits are a multiple of 4, at most 8 sprite slots are in use, and the controller indices are at most 8 and 0 under the strobe, a step that answers a next state gives such a state. (spec/10_state.md R50, spec/10_state.md R59, spec/10_state.md R60, spec/10_state.md R61, spec/10_state.md R65, spec/61_ppu.md R486, spec/61_ppu.md R504) -/
def Obligations.PpuInvariant : Prop :=
  ∀ s t : State, PpuInv s ∧ PadInv s → step s = .next t → PpuInv t ∧ PadInv t

/-- State.reset meets the memory, status, PPU and controller invariants; and it is what power-on gives for the blank image (the header of log 1 and 24576 zero bytes), all memories zero (log 2) and the default parameters. The blank cartridge and the zero memories are the model's choice, not the spec's. (spec/70_reset_and_hazards.md R604, spec/70_reset_and_hazards.md R605, log 1, log 2) -/
def Obligations.ResetInvariants : Prop :=
  MemoryInv State.reset ∧ StatusInv State.reset ∧ PpuInv State.reset ∧ PadInv State.reset ∧
  powerOn Params.default (Cart.blank.header ++ List.replicate 24576 0) MemInit.zeros = .ok State.reset
end

