-- ==== Sys2Proof/Laws/Mapper.lean ====
section
/-! SUPPORT. The mapper abstraction at mappers 0, 2 and 3: none has a read hook, a timing hook or an IRQ hook (spec/62_mapper_devices.md R552, R558), so these operations are the plain ones. -/

namespace Sys2Proof.Machine

/-- Every read of the mapper's range is the default read. -/
theorem mapperCpuRead_eq (n : Nat) (s : State) : mapperCpuRead n s = defaultCpuRead n s := by
  unfold mapperCpuRead
  cases s.cart.kind <;> rfl

/-- A read of the mapper's range changes nothing. -/
@[simp] theorem mapperReadEffect_eq (n : Nat) (s : State) : mapperReadEffect n s = s := by
  unfold mapperReadEffect
  cases s.cart.kind <;> rfl

/-- No mapper acts on the PPU bus. -/
@[simp] theorem observePpu_eq (addr : Addr) (s : State) : observePpu addr s = s := by
  unfold observePpu
  cases s.cart.kind <;> rfl

/-- No mapper acts on CPU cycles. -/
@[simp] theorem observeCpu_eq (n : Nat) (s : State) : observeCpu n s = s := by
  unfold observeCpu
  cases s.cart.kind <;> rfl

/-- No mapper drives the IRQ input: its level is the external one. -/
@[simp] theorem irqInput_eq (s : State) : irqInput s = s.irq := by
  unfold irqInput
  cases s.cart.kind <;> exact Bool.or_false _

/-- The accesses of a PPUDATA read change nothing in the mapper. -/
@[simp] theorem observeRead_eq (s : State) : observeRead s = s := by
  unfold observeRead
  simp only [observePpu_eq, ite_self]

/-- Paying for cycles is ticking. -/
@[simp] theorem payTicks_eq (n : Nat) (s : State) : payTicks n s = ticks (3 * n) s := observeCpu_eq _ _

/-- Filling a slot writes the slot and nothing else. -/
theorem fillSlot_eq (k i : Nat) (s : State) :
    fillSlot k i s = { s with ppu := { s.ppu with slots := s.ppu.slots.setIfInBounds k (spriteSlot i s) } } := by
  simp only [fillSlot, observePpu_eq]

/-- The fetch of each cycle of the cadence (R485). -/
theorem fetchStep_eq (s : State) : fetchStep s =
    match s.ppu.cycle % 8 with
    | 1 => fetchNametable s
    | 3 => fetchAttribute s
    | 5 => fetchPatternLow s
    | 7 => fetchPatternHigh s
    | 0 => storeTile s
    | _ => s := by
  unfold fetchStep
  rcases s.ppu.cycle % 8 with _ | _ | _ | _ | _ | _ | _ | _ | _ <;> first | exact observePpu_eq _ _ | rfl

end Sys2Proof.Machine
end

