-- ==== Sys2Proof/Laws/Memory.lean ====
section
/-! SUPPORT. The laws of the memories: reading after a write, the canonical form, the size bound, and the bytes a memory is made of. -/

namespace Sys2Proof.Machine

/-- Listing a value at an address: what every address reads as after it. -/
theorem Memory.read_insert {w : Nat} (m : Store w) (a b : Nat) (v : BitVec w) :
    Memory.read (Memory.insert m a v) b = if b = a then v else Memory.read m b := by
  induction m with
  | nil =>
    by_cases hb : b = a
    · simp [Memory.insert, Memory.read, hb]
    · simp [Memory.insert, Memory.read, hb, Ne.symm hb]
  | cons c m ih =>
    obtain ⟨k, x⟩ := c
    simp only [Memory.insert]
    by_cases hb : b = a
    · subst hb
      split
      · simp [Memory.read]
      · split
        · simp [Memory.read]
        · rename_i h; simp [Memory.read, ih, Ne.symm h]
    · split
      · simp [Memory.read, Ne.symm hb]
      · split
        · rename_i h; simp [Memory.read, Ne.symm hb, ← h]
        · simp [Memory.read, ih, hb]

/-- Removing an address: what every address reads as after it. -/
theorem Memory.read_remove {w : Nat} (m : Store w) (a b : Nat) :
    Memory.read (m.filter fun c => c.1 ≠ a) b = if b = a then 0 else Memory.read m b := by
  induction m with
  | nil => simp [Memory.read]
  | cons c m ih =>
    obtain ⟨k, x⟩ := c
    by_cases h : k = a
    · subst h
      simp only [ne_eq, decide_not, decide_true, Bool.not_true, Bool.false_eq_true, not_false_eq_true,
        List.filter_cons_of_neg, Memory.read] at ih ⊢
      rw [ih]
      by_cases hb : b = k
      · simp [hb]
      · simp [hb, Ne.symm hb]
    · rw [List.filter_cons_of_pos (by simpa using h)]
      simp only [Memory.read, ih]
      by_cases hb : b = a
      · subst hb; simp [h]
      · simp [hb]

/-- What every address reads as after a write. -/
theorem Memory.read_write {w : Nat} (m : Store w) (a b : Nat) (v : BitVec w) :
    Memory.read (Memory.write m a v) b = if b = a then v else Memory.read m b := by
  unfold Memory.write
  split
  · rename_i h; rw [Memory.read_remove, h]
  · exact Memory.read_insert m a b v

@[simp] theorem Memory.read_write_self {w : Nat} (m : Store w) (a : Nat) (v : BitVec w) :
    Memory.read (Memory.write m a v) a = v := by rw [Memory.read_write, if_pos rfl]

theorem Memory.read_write_ne {w : Nat} (m : Store w) {a b : Nat} (v : BitVec w) (h : b ≠ a) :
    Memory.read (Memory.write m a v) b = Memory.read m b := by rw [Memory.read_write, if_neg h]

/-- The canonical form of a nonempty memory. -/
theorem Memory.wf_cons {w : Nat} (k : Nat) (x : BitVec w) (m : Store w) :
    Memory.wf ((k, x) :: m) = true ↔ x ≠ 0 ∧ (∀ c ∈ m, k < c.1) ∧ Memory.wf m = true := by
  simp [Memory.wf, and_assoc]

theorem Memory.mem_insert {w : Nat} (m : Store w) (a : Nat) (v : BitVec w) :
    ∀ c ∈ Memory.insert m a v, c = (a, v) ∨ c ∈ m := by
  induction m with
  | nil => simp [Memory.insert]
  | cons d m ih =>
    obtain ⟨k, x⟩ := d
    intro c hc
    simp only [Memory.insert] at hc
    split at hc
    · simpa using hc
    · split at hc
      · simp only [List.mem_cons] at hc ⊢; tauto
      · simp only [List.mem_cons] at hc ⊢
        rcases hc with hc | hc
        · exact .inr (.inl hc)
        · rcases ih c hc with h | h
          · exact .inl h
          · exact .inr (.inr h)

/-- Listing a value other than 0 keeps the canonical form. -/
theorem Memory.wf_insert {w : Nat} (m : Store w) (a : Nat) (v : BitVec w) (hv : v ≠ 0) (h : Memory.wf m = true) :
    Memory.wf (Memory.insert m a v) = true := by
  induction m with
  | nil => exact (Memory.wf_cons a v []).2 ⟨hv, by simp, rfl⟩
  | cons d m ih =>
    obtain ⟨k, x⟩ := d
    obtain ⟨hx, hk, hm⟩ := (Memory.wf_cons k x m).1 h
    simp only [Memory.insert]
    split
    · rename_i hlt
      refine (Memory.wf_cons a v _).2 ⟨hv, ?_, h⟩
      intro c hc
      rcases List.mem_cons.1 hc with rfl | hc
      · exact hlt
      · exact Nat.lt_trans hlt (hk c hc)
    · split
      · rename_i heq
        subst heq
        exact (Memory.wf_cons _ v m).2 ⟨hv, hk, hm⟩
      · refine (Memory.wf_cons k x _).2 ⟨hx, ?_, ih hm⟩
        intro c hc
        rcases Memory.mem_insert m a v c hc with rfl | hc
        · simp only; omega
        · exact hk c hc

/-- Removing entries keeps the canonical form. -/
theorem Memory.wf_filter {w : Nat} (m : Store w) (p : Nat × BitVec w → Bool) (h : Memory.wf m = true) :
    Memory.wf (m.filter p) = true := by
  induction m with
  | nil => simp [Memory.wf]
  | cons d m ih =>
    obtain ⟨k, x⟩ := d
    obtain ⟨hx, hk, hm⟩ := (Memory.wf_cons k x m).1 h
    by_cases hp : p (k, x) = true
    · rw [List.filter_cons_of_pos hp]
      exact (Memory.wf_cons k x _).2 ⟨hx, fun c hc => hk c (List.mem_filter.1 hc).1, ih hm⟩
    · rw [List.filter_cons_of_neg hp]; exact ih hm

/-- Every write keeps the canonical form. -/
theorem Memory.wf_write {w : Nat} (m : Store w) (a : Nat) (v : BitVec w) (h : Memory.wf m = true) :
    Memory.wf (Memory.write m a v) = true := by
  unfold Memory.write
  split
  · exact Memory.wf_filter m _ h
  · rename_i hv; exact Memory.wf_insert m a v hv h

theorem Memory.below_iff {w : Nat} (n : Nat) (m : Store w) : Memory.below n m = true ↔ ∀ c ∈ m, c.1 < n := by
  simp [Memory.below]

/-- A write below a memory's size keeps everything listed below it. -/
theorem Memory.below_write {w : Nat} (n : Nat) (m : Store w) (a : Nat) (v : BitVec w) (ha : a < n)
    (h : Memory.below n m = true) : Memory.below n (Memory.write m a v) = true := by
  rw [Memory.below_iff] at h ⊢
  unfold Memory.write
  split
  · exact fun c hc => h c (List.mem_filter.1 hc).1
  · intro c hc
    rcases Memory.mem_insert m a v c hc with rfl | hc
    · exact ha
    · exact h c hc

/-- Above everything listed, a memory reads 0. -/
theorem Memory.read_of_forall_ne {w : Nat} (m : Store w) (a : Nat) (h : ∀ c ∈ m, c.1 ≠ a) : Memory.read m a = 0 := by
  induction m with
  | nil => rfl
  | cons d m ih =>
    obtain ⟨k, x⟩ := d
    rw [Memory.read, if_neg (h (k, x) (by simp))]
    exact ih fun c hc => h c (List.mem_cons_of_mem _ hc)

/-- Two memories in canonical form that read the same everywhere are equal. -/
theorem Memory.ext {w : Nat} (m n : Store w) (hm : Memory.wf m = true) (hn : Memory.wf n = true)
    (h : ∀ a, Memory.read m a = Memory.read n a) : m = n := by
  induction m generalizing n with
  | nil =>
    cases n with
    | nil => rfl
    | cons d n =>
      obtain ⟨k, x⟩ := d
      have := h k
      simp only [Memory.read, if_pos] at this
      exact absurd this.symm ((Memory.wf_cons k x n).1 hn).1
  | cons d m ih =>
    obtain ⟨k, x⟩ := d
    obtain ⟨hx, hk, hm'⟩ := (Memory.wf_cons k x m).1 hm
    cases n with
    | nil =>
      have := h k
      simp only [Memory.read, if_pos] at this
      exact absurd this hx
    | cons e n =>
      obtain ⟨l, y⟩ := e
      obtain ⟨hy, hl, hn'⟩ := (Memory.wf_cons l y n).1 hn
      have read_lt : ∀ (j : Nat) (q : Store w), (∀ c ∈ q, j < c.1) → Memory.read q j = 0 := fun j q hq =>
        Memory.read_of_forall_ne q j fun c hc => Nat.ne_of_gt (hq c hc)
      have hkl : k = l := by
        rcases Nat.lt_trichotomy k l with hlt | heq | hgt
        · have := h k
          simp only [Memory.read, if_pos, if_neg (Nat.ne_of_gt hlt)] at this
          rw [read_lt k n fun c hc => Nat.lt_trans hlt (hl c hc)] at this
          exact absurd this hx
        · exact heq
        · have := h l
          simp only [Memory.read, if_pos, if_neg (Nat.ne_of_gt hgt)] at this
          rw [read_lt l m fun c hc => Nat.lt_trans hgt (hk c hc)] at this
          exact absurd this.symm hy
      subst hkl
      have hxy : x = y := by simpa [Memory.read] using h k
      subst hxy
      congr 1
      refine ih n hm' hn' fun a => ?_
      by_cases ha : k = a
      · subst ha; rw [read_lt k m hk, read_lt k n hl]
      · simpa [Memory.read, ha] using h a

/-- The bytes of `ofBytes`, one by one. -/
theorem Memory.read_ofBytes (bs : List Byte) (k i : Nat) :
    Memory.read (Memory.ofBytes k bs) i = if k ≤ i then bs.getD (i - k) 0 else 0 := by
  induction bs generalizing k with
  | nil => simp [Memory.ofBytes, Memory.read]
  | cons b bs ih =>
    simp only [Memory.ofBytes]
    by_cases h : k = i
    · subst h
      split
      · rename_i hb; rw [ih]; simp [hb]
      · simp [Memory.read]
    · have hr : Memory.read (if b = 0 then Memory.ofBytes (k + 1) bs else (k, b) :: Memory.ofBytes (k + 1) bs) i
          = Memory.read (Memory.ofBytes (k + 1) bs) i := by
        split
        · rfl
        · simp [Memory.read, h]
      rw [hr, ih]
      by_cases hki : k ≤ i
      · rw [if_pos hki, if_pos (by omega), show i - k = (i - (k + 1)) + 1 by omega]; rfl
      · rw [if_neg hki, if_neg (by omega)]

/-- A byte string of the stated length comes back from its memory. -/
theorem Memory.toBytes_ofBytes (bs : List Byte) (n : Nat) (h : bs.length = n) :
    Memory.toBytes n (Memory.ofBytes 0 bs) = bs := by
  subst h
  apply List.ext_getElem
  · simp [Memory.toBytes]
  · intro i h1 h2
    simp [Memory.toBytes, Memory.read_ofBytes, List.getElem?_eq_getElem h2]

theorem Memory.ofBytes_keys (bs : List Byte) (k : Nat) : ∀ c ∈ Memory.ofBytes k bs, k ≤ c.1 ∧ c.1 < k + bs.length := by
  induction bs generalizing k with
  | nil => simp [Memory.ofBytes]
  | cons b bs ih =>
    intro c hc
    simp only [Memory.ofBytes] at hc
    have rest : c ∈ Memory.ofBytes (k + 1) bs → k ≤ c.1 ∧ c.1 < k + (b :: bs).length := fun hc => by
      have := ih (k + 1) c hc
      simp only [List.length_cons]; omega
    split at hc
    · exact rest hc
    · rcases List.mem_cons.1 hc with rfl | hc
      · simp
      · exact rest hc

/-- A memory made of bytes is in canonical form. -/
theorem Memory.wf_ofBytes (bs : List Byte) (k : Nat) : Memory.wf (Memory.ofBytes k bs) = true := by
  induction bs generalizing k with
  | nil => rfl
  | cons b bs ih =>
    simp only [Memory.ofBytes]
    split
    · exact ih _
    · rename_i hb
      exact (Memory.wf_cons k b _).2 ⟨hb, fun c hc => (Memory.ofBytes_keys bs (k + 1) c hc).1, ih _⟩

/-- A memory made of bytes lists nothing above their number. -/
theorem Memory.below_ofBytes (bs : List Byte) (n : Nat) (h : bs.length ≤ n) :
    Memory.below n (Memory.ofBytes 0 bs) = true := by
  rw [Memory.below_iff]
  intro c hc
  have := (Memory.ofBytes_keys bs 0 c hc).2
  omega

end Sys2Proof.Machine
end

