-- ==== Sys2Proof/Laws/State.lean ====
section
/-! SUPPORT. What each named update of the state leaves in each field: one lemma per field, true by definition, so that no proof unfolds a record update. -/

namespace Sys2Proof.Machine

/-! advance -/
@[simp] theorem advance_a (len cyc : Nat) (s : State) : (advance len cyc s).a = s.a := rfl
@[simp] theorem advance_x (len cyc : Nat) (s : State) : (advance len cyc s).x = s.x := rfl
@[simp] theorem advance_y (len cyc : Nat) (s : State) : (advance len cyc s).y = s.y := rfl
@[simp] theorem advance_sp (len cyc : Nat) (s : State) : (advance len cyc s).sp = s.sp := rfl
@[simp] theorem advance_pc (len cyc : Nat) (s : State) : (advance len cyc s).pc = s.pc + BitVec.ofNat 16 len := rfl
@[simp] theorem advance_p (len cyc : Nat) (s : State) : (advance len cyc s).p = s.p := rfl
@[simp] theorem advance_cycles (len cyc : Nat) (s : State) : (advance len cyc s).cycles = s.cycles + BitVec.ofNat 64 cyc := rfl
@[simp] theorem advance_stall (len cyc : Nat) (s : State) : (advance len cyc s).stall = s.stall := rfl
@[simp] theorem advance_nmiPending (len cyc : Nat) (s : State) : (advance len cyc s).nmiPending = s.nmiPending := rfl
@[simp] theorem advance_irq (len cyc : Nat) (s : State) : (advance len cyc s).irq = s.irq := rfl
@[simp] theorem advance_fault (len cyc : Nat) (s : State) : (advance len cyc s).fault = s.fault := rfl
@[simp] theorem advance_ram (len cyc : Nat) (s : State) : (advance len cyc s).ram = s.ram := rfl
@[simp] theorem advance_prgRam (len cyc : Nat) (s : State) : (advance len cyc s).prgRam = s.prgRam := rfl
@[simp] theorem advance_prgRom (len cyc : Nat) (s : State) : (advance len cyc s).prgRom = s.prgRom := rfl
@[simp] theorem advance_chr (len cyc : Nat) (s : State) : (advance len cyc s).chr = s.chr := rfl
@[simp] theorem advance_oam (len cyc : Nat) (s : State) : (advance len cyc s).oam = s.oam := rfl
@[simp] theorem advance_palette (len cyc : Nat) (s : State) : (advance len cyc s).palette = s.palette := rfl
@[simp] theorem advance_vram (len cyc : Nat) (s : State) : (advance len cyc s).vram = s.vram := rfl
@[simp] theorem advance_ppu (len cyc : Nat) (s : State) : (advance len cyc s).ppu = s.ppu := rfl
@[simp] theorem advance_map (len cyc : Nat) (s : State) : (advance len cyc s).map = s.map := rfl
@[simp] theorem advance_mirror (len cyc : Nat) (s : State) : (advance len cyc s).mirror = s.mirror := rfl
@[simp] theorem advance_cart (len cyc : Nat) (s : State) : (advance len cyc s).cart = s.cart := rfl
@[simp] theorem advance_pads (len cyc : Nat) (s : State) : (advance len cyc s).pads = s.pads := rfl
@[simp] theorem advance_cfg (len cyc : Nat) (s : State) : (advance len cyc s).cfg = s.cfg := rfl

/-! charge -/
@[simp] theorem charge_a (n : Nat) (s : State) : (charge n s).a = s.a := rfl
@[simp] theorem charge_x (n : Nat) (s : State) : (charge n s).x = s.x := rfl
@[simp] theorem charge_y (n : Nat) (s : State) : (charge n s).y = s.y := rfl
@[simp] theorem charge_sp (n : Nat) (s : State) : (charge n s).sp = s.sp := rfl
@[simp] theorem charge_pc (n : Nat) (s : State) : (charge n s).pc = s.pc := rfl
@[simp] theorem charge_p (n : Nat) (s : State) : (charge n s).p = s.p := rfl
@[simp] theorem charge_cycles (n : Nat) (s : State) : (charge n s).cycles = s.cycles + BitVec.ofNat 64 n := rfl
@[simp] theorem charge_stall (n : Nat) (s : State) : (charge n s).stall = s.stall := rfl
@[simp] theorem charge_nmiPending (n : Nat) (s : State) : (charge n s).nmiPending = s.nmiPending := rfl
@[simp] theorem charge_irq (n : Nat) (s : State) : (charge n s).irq = s.irq := rfl
@[simp] theorem charge_fault (n : Nat) (s : State) : (charge n s).fault = s.fault := rfl
@[simp] theorem charge_ram (n : Nat) (s : State) : (charge n s).ram = s.ram := rfl
@[simp] theorem charge_prgRam (n : Nat) (s : State) : (charge n s).prgRam = s.prgRam := rfl
@[simp] theorem charge_prgRom (n : Nat) (s : State) : (charge n s).prgRom = s.prgRom := rfl
@[simp] theorem charge_chr (n : Nat) (s : State) : (charge n s).chr = s.chr := rfl
@[simp] theorem charge_oam (n : Nat) (s : State) : (charge n s).oam = s.oam := rfl
@[simp] theorem charge_palette (n : Nat) (s : State) : (charge n s).palette = s.palette := rfl
@[simp] theorem charge_vram (n : Nat) (s : State) : (charge n s).vram = s.vram := rfl
@[simp] theorem charge_ppu (n : Nat) (s : State) : (charge n s).ppu = s.ppu := rfl
@[simp] theorem charge_map (n : Nat) (s : State) : (charge n s).map = s.map := rfl
@[simp] theorem charge_mirror (n : Nat) (s : State) : (charge n s).mirror = s.mirror := rfl
@[simp] theorem charge_cart (n : Nat) (s : State) : (charge n s).cart = s.cart := rfl
@[simp] theorem charge_pads (n : Nat) (s : State) : (charge n s).pads = s.pads := rfl
@[simp] theorem charge_cfg (n : Nat) (s : State) : (charge n s).cfg = s.cfg := rfl

/-! addToA -/
@[simp] theorem addToA_x (m : Byte) (s : State) : (addToA m s).x = s.x := rfl
@[simp] theorem addToA_y (m : Byte) (s : State) : (addToA m s).y = s.y := rfl
@[simp] theorem addToA_sp (m : Byte) (s : State) : (addToA m s).sp = s.sp := rfl
@[simp] theorem addToA_pc (m : Byte) (s : State) : (addToA m s).pc = s.pc := rfl
@[simp] theorem addToA_cycles (m : Byte) (s : State) : (addToA m s).cycles = s.cycles := rfl
@[simp] theorem addToA_stall (m : Byte) (s : State) : (addToA m s).stall = s.stall := rfl
@[simp] theorem addToA_nmiPending (m : Byte) (s : State) : (addToA m s).nmiPending = s.nmiPending := rfl
@[simp] theorem addToA_irq (m : Byte) (s : State) : (addToA m s).irq = s.irq := rfl
@[simp] theorem addToA_fault (m : Byte) (s : State) : (addToA m s).fault = s.fault := rfl
@[simp] theorem addToA_ram (m : Byte) (s : State) : (addToA m s).ram = s.ram := rfl
@[simp] theorem addToA_prgRam (m : Byte) (s : State) : (addToA m s).prgRam = s.prgRam := rfl
@[simp] theorem addToA_prgRom (m : Byte) (s : State) : (addToA m s).prgRom = s.prgRom := rfl
@[simp] theorem addToA_chr (m : Byte) (s : State) : (addToA m s).chr = s.chr := rfl
@[simp] theorem addToA_oam (m : Byte) (s : State) : (addToA m s).oam = s.oam := rfl
@[simp] theorem addToA_palette (m : Byte) (s : State) : (addToA m s).palette = s.palette := rfl
@[simp] theorem addToA_vram (m : Byte) (s : State) : (addToA m s).vram = s.vram := rfl
@[simp] theorem addToA_ppu (m : Byte) (s : State) : (addToA m s).ppu = s.ppu := rfl
@[simp] theorem addToA_map (m : Byte) (s : State) : (addToA m s).map = s.map := rfl
@[simp] theorem addToA_mirror (m : Byte) (s : State) : (addToA m s).mirror = s.mirror := rfl
@[simp] theorem addToA_cart (m : Byte) (s : State) : (addToA m s).cart = s.cart := rfl
@[simp] theorem addToA_pads (m : Byte) (s : State) : (addToA m s).pads = s.pads := rfl
@[simp] theorem addToA_cfg (m : Byte) (s : State) : (addToA m s).cfg = s.cfg := rfl

/-! setPrgWindow -/
@[simp] theorem setPrgWindow_a (i : Nat) (b : Int) (s : State) : (setPrgWindow i b s).a = s.a := rfl
@[simp] theorem setPrgWindow_x (i : Nat) (b : Int) (s : State) : (setPrgWindow i b s).x = s.x := rfl
@[simp] theorem setPrgWindow_y (i : Nat) (b : Int) (s : State) : (setPrgWindow i b s).y = s.y := rfl
@[simp] theorem setPrgWindow_sp (i : Nat) (b : Int) (s : State) : (setPrgWindow i b s).sp = s.sp := rfl
@[simp] theorem setPrgWindow_pc (i : Nat) (b : Int) (s : State) : (setPrgWindow i b s).pc = s.pc := rfl
@[simp] theorem setPrgWindow_p (i : Nat) (b : Int) (s : State) : (setPrgWindow i b s).p = s.p := rfl
@[simp] theorem setPrgWindow_cycles (i : Nat) (b : Int) (s : State) : (setPrgWindow i b s).cycles = s.cycles := rfl
@[simp] theorem setPrgWindow_stall (i : Nat) (b : Int) (s : State) : (setPrgWindow i b s).stall = s.stall := rfl
@[simp] theorem setPrgWindow_nmiPending (i : Nat) (b : Int) (s : State) : (setPrgWindow i b s).nmiPending = s.nmiPending := rfl
@[simp] theorem setPrgWindow_irq (i : Nat) (b : Int) (s : State) : (setPrgWindow i b s).irq = s.irq := rfl
@[simp] theorem setPrgWindow_fault (i : Nat) (b : Int) (s : State) : (setPrgWindow i b s).fault = s.fault := rfl
@[simp] theorem setPrgWindow_ram (i : Nat) (b : Int) (s : State) : (setPrgWindow i b s).ram = s.ram := rfl
@[simp] theorem setPrgWindow_prgRam (i : Nat) (b : Int) (s : State) : (setPrgWindow i b s).prgRam = s.prgRam := rfl
@[simp] theorem setPrgWindow_prgRom (i : Nat) (b : Int) (s : State) : (setPrgWindow i b s).prgRom = s.prgRom := rfl
@[simp] theorem setPrgWindow_chr (i : Nat) (b : Int) (s : State) : (setPrgWindow i b s).chr = s.chr := rfl
@[simp] theorem setPrgWindow_oam (i : Nat) (b : Int) (s : State) : (setPrgWindow i b s).oam = s.oam := rfl
@[simp] theorem setPrgWindow_palette (i : Nat) (b : Int) (s : State) : (setPrgWindow i b s).palette = s.palette := rfl
@[simp] theorem setPrgWindow_vram (i : Nat) (b : Int) (s : State) : (setPrgWindow i b s).vram = s.vram := rfl
@[simp] theorem setPrgWindow_ppu (i : Nat) (b : Int) (s : State) : (setPrgWindow i b s).ppu = s.ppu := rfl
@[simp] theorem setPrgWindow_mirror (i : Nat) (b : Int) (s : State) : (setPrgWindow i b s).mirror = s.mirror := rfl
@[simp] theorem setPrgWindow_cart (i : Nat) (b : Int) (s : State) : (setPrgWindow i b s).cart = s.cart := rfl
@[simp] theorem setPrgWindow_pads (i : Nat) (b : Int) (s : State) : (setPrgWindow i b s).pads = s.pads := rfl
@[simp] theorem setPrgWindow_cfg (i : Nat) (b : Int) (s : State) : (setPrgWindow i b s).cfg = s.cfg := rfl

/-! setChrWindow -/
@[simp] theorem setChrWindow_a (i : Nat) (b : Int) (s : State) : (setChrWindow i b s).a = s.a := rfl
@[simp] theorem setChrWindow_x (i : Nat) (b : Int) (s : State) : (setChrWindow i b s).x = s.x := rfl
@[simp] theorem setChrWindow_y (i : Nat) (b : Int) (s : State) : (setChrWindow i b s).y = s.y := rfl
@[simp] theorem setChrWindow_sp (i : Nat) (b : Int) (s : State) : (setChrWindow i b s).sp = s.sp := rfl
@[simp] theorem setChrWindow_pc (i : Nat) (b : Int) (s : State) : (setChrWindow i b s).pc = s.pc := rfl
@[simp] theorem setChrWindow_p (i : Nat) (b : Int) (s : State) : (setChrWindow i b s).p = s.p := rfl
@[simp] theorem setChrWindow_cycles (i : Nat) (b : Int) (s : State) : (setChrWindow i b s).cycles = s.cycles := rfl
@[simp] theorem setChrWindow_stall (i : Nat) (b : Int) (s : State) : (setChrWindow i b s).stall = s.stall := rfl
@[simp] theorem setChrWindow_nmiPending (i : Nat) (b : Int) (s : State) : (setChrWindow i b s).nmiPending = s.nmiPending := rfl
@[simp] theorem setChrWindow_irq (i : Nat) (b : Int) (s : State) : (setChrWindow i b s).irq = s.irq := rfl
@[simp] theorem setChrWindow_fault (i : Nat) (b : Int) (s : State) : (setChrWindow i b s).fault = s.fault := rfl
@[simp] theorem setChrWindow_ram (i : Nat) (b : Int) (s : State) : (setChrWindow i b s).ram = s.ram := rfl
@[simp] theorem setChrWindow_prgRam (i : Nat) (b : Int) (s : State) : (setChrWindow i b s).prgRam = s.prgRam := rfl
@[simp] theorem setChrWindow_prgRom (i : Nat) (b : Int) (s : State) : (setChrWindow i b s).prgRom = s.prgRom := rfl
@[simp] theorem setChrWindow_chr (i : Nat) (b : Int) (s : State) : (setChrWindow i b s).chr = s.chr := rfl
@[simp] theorem setChrWindow_oam (i : Nat) (b : Int) (s : State) : (setChrWindow i b s).oam = s.oam := rfl
@[simp] theorem setChrWindow_palette (i : Nat) (b : Int) (s : State) : (setChrWindow i b s).palette = s.palette := rfl
@[simp] theorem setChrWindow_vram (i : Nat) (b : Int) (s : State) : (setChrWindow i b s).vram = s.vram := rfl
@[simp] theorem setChrWindow_ppu (i : Nat) (b : Int) (s : State) : (setChrWindow i b s).ppu = s.ppu := rfl
@[simp] theorem setChrWindow_mirror (i : Nat) (b : Int) (s : State) : (setChrWindow i b s).mirror = s.mirror := rfl
@[simp] theorem setChrWindow_cart (i : Nat) (b : Int) (s : State) : (setChrWindow i b s).cart = s.cart := rfl
@[simp] theorem setChrWindow_pads (i : Nat) (b : Int) (s : State) : (setChrWindow i b s).pads = s.pads := rfl
@[simp] theorem setChrWindow_cfg (i : Nat) (b : Int) (s : State) : (setChrWindow i b s).cfg = s.cfg := rfl

/-! setMirror -/
@[simp] theorem setMirror_a (m : MirrorMode) (s : State) : (setMirror m s).a = s.a := rfl
@[simp] theorem setMirror_x (m : MirrorMode) (s : State) : (setMirror m s).x = s.x := rfl
@[simp] theorem setMirror_y (m : MirrorMode) (s : State) : (setMirror m s).y = s.y := rfl
@[simp] theorem setMirror_sp (m : MirrorMode) (s : State) : (setMirror m s).sp = s.sp := rfl
@[simp] theorem setMirror_pc (m : MirrorMode) (s : State) : (setMirror m s).pc = s.pc := rfl
@[simp] theorem setMirror_p (m : MirrorMode) (s : State) : (setMirror m s).p = s.p := rfl
@[simp] theorem setMirror_cycles (m : MirrorMode) (s : State) : (setMirror m s).cycles = s.cycles := rfl
@[simp] theorem setMirror_stall (m : MirrorMode) (s : State) : (setMirror m s).stall = s.stall := rfl
@[simp] theorem setMirror_nmiPending (m : MirrorMode) (s : State) : (setMirror m s).nmiPending = s.nmiPending := rfl
@[simp] theorem setMirror_irq (m : MirrorMode) (s : State) : (setMirror m s).irq = s.irq := rfl
@[simp] theorem setMirror_fault (m : MirrorMode) (s : State) : (setMirror m s).fault = s.fault := rfl
@[simp] theorem setMirror_ram (m : MirrorMode) (s : State) : (setMirror m s).ram = s.ram := rfl
@[simp] theorem setMirror_prgRam (m : MirrorMode) (s : State) : (setMirror m s).prgRam = s.prgRam := rfl
@[simp] theorem setMirror_prgRom (m : MirrorMode) (s : State) : (setMirror m s).prgRom = s.prgRom := rfl
@[simp] theorem setMirror_chr (m : MirrorMode) (s : State) : (setMirror m s).chr = s.chr := rfl
@[simp] theorem setMirror_oam (m : MirrorMode) (s : State) : (setMirror m s).oam = s.oam := rfl
@[simp] theorem setMirror_palette (m : MirrorMode) (s : State) : (setMirror m s).palette = s.palette := rfl
@[simp] theorem setMirror_vram (m : MirrorMode) (s : State) : (setMirror m s).vram = s.vram := rfl
@[simp] theorem setMirror_ppu (m : MirrorMode) (s : State) : (setMirror m s).ppu = s.ppu := rfl
@[simp] theorem setMirror_map (m : MirrorMode) (s : State) : (setMirror m s).map = s.map := rfl
@[simp] theorem setMirror_mirror (m : MirrorMode) (s : State) : (setMirror m s).mirror = m := rfl
@[simp] theorem setMirror_cart (m : MirrorMode) (s : State) : (setMirror m s).cart = s.cart := rfl
@[simp] theorem setMirror_pads (m : MirrorMode) (s : State) : (setMirror m s).pads = s.pads := rfl
@[simp] theorem setMirror_cfg (m : MirrorMode) (s : State) : (setMirror m s).cfg = s.cfg := rfl

/-! strobePads -/
@[simp] theorem strobePads_a (v : Byte) (s : State) : (strobePads v s).a = s.a := rfl
@[simp] theorem strobePads_x (v : Byte) (s : State) : (strobePads v s).x = s.x := rfl
@[simp] theorem strobePads_y (v : Byte) (s : State) : (strobePads v s).y = s.y := rfl
@[simp] theorem strobePads_sp (v : Byte) (s : State) : (strobePads v s).sp = s.sp := rfl
@[simp] theorem strobePads_pc (v : Byte) (s : State) : (strobePads v s).pc = s.pc := rfl
@[simp] theorem strobePads_p (v : Byte) (s : State) : (strobePads v s).p = s.p := rfl
@[simp] theorem strobePads_cycles (v : Byte) (s : State) : (strobePads v s).cycles = s.cycles := rfl
@[simp] theorem strobePads_stall (v : Byte) (s : State) : (strobePads v s).stall = s.stall := rfl
@[simp] theorem strobePads_nmiPending (v : Byte) (s : State) : (strobePads v s).nmiPending = s.nmiPending := rfl
@[simp] theorem strobePads_irq (v : Byte) (s : State) : (strobePads v s).irq = s.irq := rfl
@[simp] theorem strobePads_fault (v : Byte) (s : State) : (strobePads v s).fault = s.fault := rfl
@[simp] theorem strobePads_ram (v : Byte) (s : State) : (strobePads v s).ram = s.ram := rfl
@[simp] theorem strobePads_prgRam (v : Byte) (s : State) : (strobePads v s).prgRam = s.prgRam := rfl
@[simp] theorem strobePads_prgRom (v : Byte) (s : State) : (strobePads v s).prgRom = s.prgRom := rfl
@[simp] theorem strobePads_chr (v : Byte) (s : State) : (strobePads v s).chr = s.chr := rfl
@[simp] theorem strobePads_oam (v : Byte) (s : State) : (strobePads v s).oam = s.oam := rfl
@[simp] theorem strobePads_palette (v : Byte) (s : State) : (strobePads v s).palette = s.palette := rfl
@[simp] theorem strobePads_vram (v : Byte) (s : State) : (strobePads v s).vram = s.vram := rfl
@[simp] theorem strobePads_ppu (v : Byte) (s : State) : (strobePads v s).ppu = s.ppu := rfl
@[simp] theorem strobePads_map (v : Byte) (s : State) : (strobePads v s).map = s.map := rfl
@[simp] theorem strobePads_mirror (v : Byte) (s : State) : (strobePads v s).mirror = s.mirror := rfl
@[simp] theorem strobePads_cart (v : Byte) (s : State) : (strobePads v s).cart = s.cart := rfl
@[simp] theorem strobePads_cfg (v : Byte) (s : State) : (strobePads v s).cfg = s.cfg := rfl

/-! readPad1 -/
@[simp] theorem readPad1_a (s : State) : (readPad1 s).2.a = s.a := rfl
@[simp] theorem readPad1_x (s : State) : (readPad1 s).2.x = s.x := rfl
@[simp] theorem readPad1_y (s : State) : (readPad1 s).2.y = s.y := rfl
@[simp] theorem readPad1_sp (s : State) : (readPad1 s).2.sp = s.sp := rfl
@[simp] theorem readPad1_pc (s : State) : (readPad1 s).2.pc = s.pc := rfl
@[simp] theorem readPad1_p (s : State) : (readPad1 s).2.p = s.p := rfl
@[simp] theorem readPad1_cycles (s : State) : (readPad1 s).2.cycles = s.cycles := rfl
@[simp] theorem readPad1_stall (s : State) : (readPad1 s).2.stall = s.stall := rfl
@[simp] theorem readPad1_nmiPending (s : State) : (readPad1 s).2.nmiPending = s.nmiPending := rfl
@[simp] theorem readPad1_irq (s : State) : (readPad1 s).2.irq = s.irq := rfl
@[simp] theorem readPad1_fault (s : State) : (readPad1 s).2.fault = s.fault := rfl
@[simp] theorem readPad1_ram (s : State) : (readPad1 s).2.ram = s.ram := rfl
@[simp] theorem readPad1_prgRam (s : State) : (readPad1 s).2.prgRam = s.prgRam := rfl
@[simp] theorem readPad1_prgRom (s : State) : (readPad1 s).2.prgRom = s.prgRom := rfl
@[simp] theorem readPad1_chr (s : State) : (readPad1 s).2.chr = s.chr := rfl
@[simp] theorem readPad1_oam (s : State) : (readPad1 s).2.oam = s.oam := rfl
@[simp] theorem readPad1_palette (s : State) : (readPad1 s).2.palette = s.palette := rfl
@[simp] theorem readPad1_vram (s : State) : (readPad1 s).2.vram = s.vram := rfl
@[simp] theorem readPad1_ppu (s : State) : (readPad1 s).2.ppu = s.ppu := rfl
@[simp] theorem readPad1_map (s : State) : (readPad1 s).2.map = s.map := rfl
@[simp] theorem readPad1_mirror (s : State) : (readPad1 s).2.mirror = s.mirror := rfl
@[simp] theorem readPad1_cart (s : State) : (readPad1 s).2.cart = s.cart := rfl
@[simp] theorem readPad1_cfg (s : State) : (readPad1 s).2.cfg = s.cfg := rfl

/-! readPad2 -/
@[simp] theorem readPad2_a (s : State) : (readPad2 s).2.a = s.a := rfl
@[simp] theorem readPad2_x (s : State) : (readPad2 s).2.x = s.x := rfl
@[simp] theorem readPad2_y (s : State) : (readPad2 s).2.y = s.y := rfl
@[simp] theorem readPad2_sp (s : State) : (readPad2 s).2.sp = s.sp := rfl
@[simp] theorem readPad2_pc (s : State) : (readPad2 s).2.pc = s.pc := rfl
@[simp] theorem readPad2_p (s : State) : (readPad2 s).2.p = s.p := rfl
@[simp] theorem readPad2_cycles (s : State) : (readPad2 s).2.cycles = s.cycles := rfl
@[simp] theorem readPad2_stall (s : State) : (readPad2 s).2.stall = s.stall := rfl
@[simp] theorem readPad2_nmiPending (s : State) : (readPad2 s).2.nmiPending = s.nmiPending := rfl
@[simp] theorem readPad2_irq (s : State) : (readPad2 s).2.irq = s.irq := rfl
@[simp] theorem readPad2_fault (s : State) : (readPad2 s).2.fault = s.fault := rfl
@[simp] theorem readPad2_ram (s : State) : (readPad2 s).2.ram = s.ram := rfl
@[simp] theorem readPad2_prgRam (s : State) : (readPad2 s).2.prgRam = s.prgRam := rfl
@[simp] theorem readPad2_prgRom (s : State) : (readPad2 s).2.prgRom = s.prgRom := rfl
@[simp] theorem readPad2_chr (s : State) : (readPad2 s).2.chr = s.chr := rfl
@[simp] theorem readPad2_oam (s : State) : (readPad2 s).2.oam = s.oam := rfl
@[simp] theorem readPad2_palette (s : State) : (readPad2 s).2.palette = s.palette := rfl
@[simp] theorem readPad2_vram (s : State) : (readPad2 s).2.vram = s.vram := rfl
@[simp] theorem readPad2_ppu (s : State) : (readPad2 s).2.ppu = s.ppu := rfl
@[simp] theorem readPad2_map (s : State) : (readPad2 s).2.map = s.map := rfl
@[simp] theorem readPad2_mirror (s : State) : (readPad2 s).2.mirror = s.mirror := rfl
@[simp] theorem readPad2_cart (s : State) : (readPad2 s).2.cart = s.cart := rfl
@[simp] theorem readPad2_cfg (s : State) : (readPad2 s).2.cfg = s.cfg := rfl

/-! nmiChange -/
@[simp] theorem nmiChange_a (s : State) : (nmiChange s).a = s.a := rfl
@[simp] theorem nmiChange_x (s : State) : (nmiChange s).x = s.x := rfl
@[simp] theorem nmiChange_y (s : State) : (nmiChange s).y = s.y := rfl
@[simp] theorem nmiChange_sp (s : State) : (nmiChange s).sp = s.sp := rfl
@[simp] theorem nmiChange_pc (s : State) : (nmiChange s).pc = s.pc := rfl
@[simp] theorem nmiChange_p (s : State) : (nmiChange s).p = s.p := rfl
@[simp] theorem nmiChange_cycles (s : State) : (nmiChange s).cycles = s.cycles := rfl
@[simp] theorem nmiChange_stall (s : State) : (nmiChange s).stall = s.stall := rfl
@[simp] theorem nmiChange_nmiPending (s : State) : (nmiChange s).nmiPending = s.nmiPending := rfl
@[simp] theorem nmiChange_irq (s : State) : (nmiChange s).irq = s.irq := rfl
@[simp] theorem nmiChange_fault (s : State) : (nmiChange s).fault = s.fault := rfl
@[simp] theorem nmiChange_ram (s : State) : (nmiChange s).ram = s.ram := rfl
@[simp] theorem nmiChange_prgRam (s : State) : (nmiChange s).prgRam = s.prgRam := rfl
@[simp] theorem nmiChange_prgRom (s : State) : (nmiChange s).prgRom = s.prgRom := rfl
@[simp] theorem nmiChange_chr (s : State) : (nmiChange s).chr = s.chr := rfl
@[simp] theorem nmiChange_oam (s : State) : (nmiChange s).oam = s.oam := rfl
@[simp] theorem nmiChange_palette (s : State) : (nmiChange s).palette = s.palette := rfl
@[simp] theorem nmiChange_vram (s : State) : (nmiChange s).vram = s.vram := rfl
@[simp] theorem nmiChange_map (s : State) : (nmiChange s).map = s.map := rfl
@[simp] theorem nmiChange_mirror (s : State) : (nmiChange s).mirror = s.mirror := rfl
@[simp] theorem nmiChange_cart (s : State) : (nmiChange s).cart = s.cart := rfl
@[simp] theorem nmiChange_pads (s : State) : (nmiChange s).pads = s.pads := rfl
@[simp] theorem nmiChange_cfg (s : State) : (nmiChange s).cfg = s.cfg := rfl

/-! incrementV -/
@[simp] theorem incrementV_a (s : State) : (incrementV s).a = s.a := rfl
@[simp] theorem incrementV_x (s : State) : (incrementV s).x = s.x := rfl
@[simp] theorem incrementV_y (s : State) : (incrementV s).y = s.y := rfl
@[simp] theorem incrementV_sp (s : State) : (incrementV s).sp = s.sp := rfl
@[simp] theorem incrementV_pc (s : State) : (incrementV s).pc = s.pc := rfl
@[simp] theorem incrementV_p (s : State) : (incrementV s).p = s.p := rfl
@[simp] theorem incrementV_cycles (s : State) : (incrementV s).cycles = s.cycles := rfl
@[simp] theorem incrementV_stall (s : State) : (incrementV s).stall = s.stall := rfl
@[simp] theorem incrementV_nmiPending (s : State) : (incrementV s).nmiPending = s.nmiPending := rfl
@[simp] theorem incrementV_irq (s : State) : (incrementV s).irq = s.irq := rfl
@[simp] theorem incrementV_fault (s : State) : (incrementV s).fault = s.fault := rfl
@[simp] theorem incrementV_ram (s : State) : (incrementV s).ram = s.ram := rfl
@[simp] theorem incrementV_prgRam (s : State) : (incrementV s).prgRam = s.prgRam := rfl
@[simp] theorem incrementV_prgRom (s : State) : (incrementV s).prgRom = s.prgRom := rfl
@[simp] theorem incrementV_chr (s : State) : (incrementV s).chr = s.chr := rfl
@[simp] theorem incrementV_oam (s : State) : (incrementV s).oam = s.oam := rfl
@[simp] theorem incrementV_palette (s : State) : (incrementV s).palette = s.palette := rfl
@[simp] theorem incrementV_vram (s : State) : (incrementV s).vram = s.vram := rfl
@[simp] theorem incrementV_map (s : State) : (incrementV s).map = s.map := rfl
@[simp] theorem incrementV_mirror (s : State) : (incrementV s).mirror = s.mirror := rfl
@[simp] theorem incrementV_cart (s : State) : (incrementV s).cart = s.cart := rfl
@[simp] theorem incrementV_pads (s : State) : (incrementV s).pads = s.pads := rfl
@[simp] theorem incrementV_cfg (s : State) : (incrementV s).cfg = s.cfg := rfl

/-! readStatus -/
@[simp] theorem readStatus_a (s : State) : (readStatus s).2.a = s.a := rfl
@[simp] theorem readStatus_x (s : State) : (readStatus s).2.x = s.x := rfl
@[simp] theorem readStatus_y (s : State) : (readStatus s).2.y = s.y := rfl
@[simp] theorem readStatus_sp (s : State) : (readStatus s).2.sp = s.sp := rfl
@[simp] theorem readStatus_pc (s : State) : (readStatus s).2.pc = s.pc := rfl
@[simp] theorem readStatus_p (s : State) : (readStatus s).2.p = s.p := rfl
@[simp] theorem readStatus_cycles (s : State) : (readStatus s).2.cycles = s.cycles := rfl
@[simp] theorem readStatus_stall (s : State) : (readStatus s).2.stall = s.stall := rfl
@[simp] theorem readStatus_nmiPending (s : State) : (readStatus s).2.nmiPending = s.nmiPending := rfl
@[simp] theorem readStatus_irq (s : State) : (readStatus s).2.irq = s.irq := rfl
@[simp] theorem readStatus_fault (s : State) : (readStatus s).2.fault = s.fault := rfl
@[simp] theorem readStatus_ram (s : State) : (readStatus s).2.ram = s.ram := rfl
@[simp] theorem readStatus_prgRam (s : State) : (readStatus s).2.prgRam = s.prgRam := rfl
@[simp] theorem readStatus_prgRom (s : State) : (readStatus s).2.prgRom = s.prgRom := rfl
@[simp] theorem readStatus_chr (s : State) : (readStatus s).2.chr = s.chr := rfl
@[simp] theorem readStatus_oam (s : State) : (readStatus s).2.oam = s.oam := rfl
@[simp] theorem readStatus_palette (s : State) : (readStatus s).2.palette = s.palette := rfl
@[simp] theorem readStatus_vram (s : State) : (readStatus s).2.vram = s.vram := rfl
@[simp] theorem readStatus_map (s : State) : (readStatus s).2.map = s.map := rfl
@[simp] theorem readStatus_mirror (s : State) : (readStatus s).2.mirror = s.mirror := rfl
@[simp] theorem readStatus_cart (s : State) : (readStatus s).2.cart = s.cart := rfl
@[simp] theorem readStatus_pads (s : State) : (readStatus s).2.pads = s.pads := rfl
@[simp] theorem readStatus_cfg (s : State) : (readStatus s).2.cfg = s.cfg := rfl

/-! writeCtrl -/
@[simp] theorem writeCtrl_a (d : Byte) (s : State) : (writeCtrl d s).a = s.a := rfl
@[simp] theorem writeCtrl_x (d : Byte) (s : State) : (writeCtrl d s).x = s.x := rfl
@[simp] theorem writeCtrl_y (d : Byte) (s : State) : (writeCtrl d s).y = s.y := rfl
@[simp] theorem writeCtrl_sp (d : Byte) (s : State) : (writeCtrl d s).sp = s.sp := rfl
@[simp] theorem writeCtrl_pc (d : Byte) (s : State) : (writeCtrl d s).pc = s.pc := rfl
@[simp] theorem writeCtrl_p (d : Byte) (s : State) : (writeCtrl d s).p = s.p := rfl
@[simp] theorem writeCtrl_cycles (d : Byte) (s : State) : (writeCtrl d s).cycles = s.cycles := rfl
@[simp] theorem writeCtrl_stall (d : Byte) (s : State) : (writeCtrl d s).stall = s.stall := rfl
@[simp] theorem writeCtrl_nmiPending (d : Byte) (s : State) : (writeCtrl d s).nmiPending = s.nmiPending := rfl
@[simp] theorem writeCtrl_irq (d : Byte) (s : State) : (writeCtrl d s).irq = s.irq := rfl
@[simp] theorem writeCtrl_fault (d : Byte) (s : State) : (writeCtrl d s).fault = s.fault := rfl
@[simp] theorem writeCtrl_ram (d : Byte) (s : State) : (writeCtrl d s).ram = s.ram := rfl
@[simp] theorem writeCtrl_prgRam (d : Byte) (s : State) : (writeCtrl d s).prgRam = s.prgRam := rfl
@[simp] theorem writeCtrl_prgRom (d : Byte) (s : State) : (writeCtrl d s).prgRom = s.prgRom := rfl
@[simp] theorem writeCtrl_chr (d : Byte) (s : State) : (writeCtrl d s).chr = s.chr := rfl
@[simp] theorem writeCtrl_oam (d : Byte) (s : State) : (writeCtrl d s).oam = s.oam := rfl
@[simp] theorem writeCtrl_palette (d : Byte) (s : State) : (writeCtrl d s).palette = s.palette := rfl
@[simp] theorem writeCtrl_vram (d : Byte) (s : State) : (writeCtrl d s).vram = s.vram := rfl
@[simp] theorem writeCtrl_map (d : Byte) (s : State) : (writeCtrl d s).map = s.map := rfl
@[simp] theorem writeCtrl_mirror (d : Byte) (s : State) : (writeCtrl d s).mirror = s.mirror := rfl
@[simp] theorem writeCtrl_cart (d : Byte) (s : State) : (writeCtrl d s).cart = s.cart := rfl
@[simp] theorem writeCtrl_pads (d : Byte) (s : State) : (writeCtrl d s).pads = s.pads := rfl
@[simp] theorem writeCtrl_cfg (d : Byte) (s : State) : (writeCtrl d s).cfg = s.cfg := rfl

/-! writeMask -/
@[simp] theorem writeMask_a (d : Byte) (s : State) : (writeMask d s).a = s.a := rfl
@[simp] theorem writeMask_x (d : Byte) (s : State) : (writeMask d s).x = s.x := rfl
@[simp] theorem writeMask_y (d : Byte) (s : State) : (writeMask d s).y = s.y := rfl
@[simp] theorem writeMask_sp (d : Byte) (s : State) : (writeMask d s).sp = s.sp := rfl
@[simp] theorem writeMask_pc (d : Byte) (s : State) : (writeMask d s).pc = s.pc := rfl
@[simp] theorem writeMask_p (d : Byte) (s : State) : (writeMask d s).p = s.p := rfl
@[simp] theorem writeMask_cycles (d : Byte) (s : State) : (writeMask d s).cycles = s.cycles := rfl
@[simp] theorem writeMask_stall (d : Byte) (s : State) : (writeMask d s).stall = s.stall := rfl
@[simp] theorem writeMask_nmiPending (d : Byte) (s : State) : (writeMask d s).nmiPending = s.nmiPending := rfl
@[simp] theorem writeMask_irq (d : Byte) (s : State) : (writeMask d s).irq = s.irq := rfl
@[simp] theorem writeMask_fault (d : Byte) (s : State) : (writeMask d s).fault = s.fault := rfl
@[simp] theorem writeMask_ram (d : Byte) (s : State) : (writeMask d s).ram = s.ram := rfl
@[simp] theorem writeMask_prgRam (d : Byte) (s : State) : (writeMask d s).prgRam = s.prgRam := rfl
@[simp] theorem writeMask_prgRom (d : Byte) (s : State) : (writeMask d s).prgRom = s.prgRom := rfl
@[simp] theorem writeMask_chr (d : Byte) (s : State) : (writeMask d s).chr = s.chr := rfl
@[simp] theorem writeMask_oam (d : Byte) (s : State) : (writeMask d s).oam = s.oam := rfl
@[simp] theorem writeMask_palette (d : Byte) (s : State) : (writeMask d s).palette = s.palette := rfl
@[simp] theorem writeMask_vram (d : Byte) (s : State) : (writeMask d s).vram = s.vram := rfl
@[simp] theorem writeMask_map (d : Byte) (s : State) : (writeMask d s).map = s.map := rfl
@[simp] theorem writeMask_mirror (d : Byte) (s : State) : (writeMask d s).mirror = s.mirror := rfl
@[simp] theorem writeMask_cart (d : Byte) (s : State) : (writeMask d s).cart = s.cart := rfl
@[simp] theorem writeMask_pads (d : Byte) (s : State) : (writeMask d s).pads = s.pads := rfl
@[simp] theorem writeMask_cfg (d : Byte) (s : State) : (writeMask d s).cfg = s.cfg := rfl

/-! writeOamAddr -/
@[simp] theorem writeOamAddr_a (d : Byte) (s : State) : (writeOamAddr d s).a = s.a := rfl
@[simp] theorem writeOamAddr_x (d : Byte) (s : State) : (writeOamAddr d s).x = s.x := rfl
@[simp] theorem writeOamAddr_y (d : Byte) (s : State) : (writeOamAddr d s).y = s.y := rfl
@[simp] theorem writeOamAddr_sp (d : Byte) (s : State) : (writeOamAddr d s).sp = s.sp := rfl
@[simp] theorem writeOamAddr_pc (d : Byte) (s : State) : (writeOamAddr d s).pc = s.pc := rfl
@[simp] theorem writeOamAddr_p (d : Byte) (s : State) : (writeOamAddr d s).p = s.p := rfl
@[simp] theorem writeOamAddr_cycles (d : Byte) (s : State) : (writeOamAddr d s).cycles = s.cycles := rfl
@[simp] theorem writeOamAddr_stall (d : Byte) (s : State) : (writeOamAddr d s).stall = s.stall := rfl
@[simp] theorem writeOamAddr_nmiPending (d : Byte) (s : State) : (writeOamAddr d s).nmiPending = s.nmiPending := rfl
@[simp] theorem writeOamAddr_irq (d : Byte) (s : State) : (writeOamAddr d s).irq = s.irq := rfl
@[simp] theorem writeOamAddr_fault (d : Byte) (s : State) : (writeOamAddr d s).fault = s.fault := rfl
@[simp] theorem writeOamAddr_ram (d : Byte) (s : State) : (writeOamAddr d s).ram = s.ram := rfl
@[simp] theorem writeOamAddr_prgRam (d : Byte) (s : State) : (writeOamAddr d s).prgRam = s.prgRam := rfl
@[simp] theorem writeOamAddr_prgRom (d : Byte) (s : State) : (writeOamAddr d s).prgRom = s.prgRom := rfl
@[simp] theorem writeOamAddr_chr (d : Byte) (s : State) : (writeOamAddr d s).chr = s.chr := rfl
@[simp] theorem writeOamAddr_oam (d : Byte) (s : State) : (writeOamAddr d s).oam = s.oam := rfl
@[simp] theorem writeOamAddr_palette (d : Byte) (s : State) : (writeOamAddr d s).palette = s.palette := rfl
@[simp] theorem writeOamAddr_vram (d : Byte) (s : State) : (writeOamAddr d s).vram = s.vram := rfl
@[simp] theorem writeOamAddr_map (d : Byte) (s : State) : (writeOamAddr d s).map = s.map := rfl
@[simp] theorem writeOamAddr_mirror (d : Byte) (s : State) : (writeOamAddr d s).mirror = s.mirror := rfl
@[simp] theorem writeOamAddr_cart (d : Byte) (s : State) : (writeOamAddr d s).cart = s.cart := rfl
@[simp] theorem writeOamAddr_pads (d : Byte) (s : State) : (writeOamAddr d s).pads = s.pads := rfl
@[simp] theorem writeOamAddr_cfg (d : Byte) (s : State) : (writeOamAddr d s).cfg = s.cfg := rfl

/-! writeOamData -/
@[simp] theorem writeOamData_a (d : Byte) (s : State) : (writeOamData d s).a = s.a := rfl
@[simp] theorem writeOamData_x (d : Byte) (s : State) : (writeOamData d s).x = s.x := rfl
@[simp] theorem writeOamData_y (d : Byte) (s : State) : (writeOamData d s).y = s.y := rfl
@[simp] theorem writeOamData_sp (d : Byte) (s : State) : (writeOamData d s).sp = s.sp := rfl
@[simp] theorem writeOamData_pc (d : Byte) (s : State) : (writeOamData d s).pc = s.pc := rfl
@[simp] theorem writeOamData_p (d : Byte) (s : State) : (writeOamData d s).p = s.p := rfl
@[simp] theorem writeOamData_cycles (d : Byte) (s : State) : (writeOamData d s).cycles = s.cycles := rfl
@[simp] theorem writeOamData_stall (d : Byte) (s : State) : (writeOamData d s).stall = s.stall := rfl
@[simp] theorem writeOamData_nmiPending (d : Byte) (s : State) : (writeOamData d s).nmiPending = s.nmiPending := rfl
@[simp] theorem writeOamData_irq (d : Byte) (s : State) : (writeOamData d s).irq = s.irq := rfl
@[simp] theorem writeOamData_fault (d : Byte) (s : State) : (writeOamData d s).fault = s.fault := rfl
@[simp] theorem writeOamData_ram (d : Byte) (s : State) : (writeOamData d s).ram = s.ram := rfl
@[simp] theorem writeOamData_prgRam (d : Byte) (s : State) : (writeOamData d s).prgRam = s.prgRam := rfl
@[simp] theorem writeOamData_prgRom (d : Byte) (s : State) : (writeOamData d s).prgRom = s.prgRom := rfl
@[simp] theorem writeOamData_chr (d : Byte) (s : State) : (writeOamData d s).chr = s.chr := rfl
@[simp] theorem writeOamData_oam (d : Byte) (s : State) : (writeOamData d s).oam = Memory.write s.oam s.ppu.oamAddr.toNat d := rfl
@[simp] theorem writeOamData_palette (d : Byte) (s : State) : (writeOamData d s).palette = s.palette := rfl
@[simp] theorem writeOamData_vram (d : Byte) (s : State) : (writeOamData d s).vram = s.vram := rfl
@[simp] theorem writeOamData_map (d : Byte) (s : State) : (writeOamData d s).map = s.map := rfl
@[simp] theorem writeOamData_mirror (d : Byte) (s : State) : (writeOamData d s).mirror = s.mirror := rfl
@[simp] theorem writeOamData_cart (d : Byte) (s : State) : (writeOamData d s).cart = s.cart := rfl
@[simp] theorem writeOamData_pads (d : Byte) (s : State) : (writeOamData d s).pads = s.pads := rfl
@[simp] theorem writeOamData_cfg (d : Byte) (s : State) : (writeOamData d s).cfg = s.cfg := rfl

/-! setV -/
@[simp] theorem setV_a (f : Ppu → BitVec 15) (s : State) : (setV f s).a = s.a := rfl
@[simp] theorem setV_x (f : Ppu → BitVec 15) (s : State) : (setV f s).x = s.x := rfl
@[simp] theorem setV_y (f : Ppu → BitVec 15) (s : State) : (setV f s).y = s.y := rfl
@[simp] theorem setV_sp (f : Ppu → BitVec 15) (s : State) : (setV f s).sp = s.sp := rfl
@[simp] theorem setV_pc (f : Ppu → BitVec 15) (s : State) : (setV f s).pc = s.pc := rfl
@[simp] theorem setV_p (f : Ppu → BitVec 15) (s : State) : (setV f s).p = s.p := rfl
@[simp] theorem setV_cycles (f : Ppu → BitVec 15) (s : State) : (setV f s).cycles = s.cycles := rfl
@[simp] theorem setV_stall (f : Ppu → BitVec 15) (s : State) : (setV f s).stall = s.stall := rfl
@[simp] theorem setV_nmiPending (f : Ppu → BitVec 15) (s : State) : (setV f s).nmiPending = s.nmiPending := rfl
@[simp] theorem setV_irq (f : Ppu → BitVec 15) (s : State) : (setV f s).irq = s.irq := rfl
@[simp] theorem setV_fault (f : Ppu → BitVec 15) (s : State) : (setV f s).fault = s.fault := rfl
@[simp] theorem setV_ram (f : Ppu → BitVec 15) (s : State) : (setV f s).ram = s.ram := rfl
@[simp] theorem setV_prgRam (f : Ppu → BitVec 15) (s : State) : (setV f s).prgRam = s.prgRam := rfl
@[simp] theorem setV_prgRom (f : Ppu → BitVec 15) (s : State) : (setV f s).prgRom = s.prgRom := rfl
@[simp] theorem setV_chr (f : Ppu → BitVec 15) (s : State) : (setV f s).chr = s.chr := rfl
@[simp] theorem setV_oam (f : Ppu → BitVec 15) (s : State) : (setV f s).oam = s.oam := rfl
@[simp] theorem setV_palette (f : Ppu → BitVec 15) (s : State) : (setV f s).palette = s.palette := rfl
@[simp] theorem setV_vram (f : Ppu → BitVec 15) (s : State) : (setV f s).vram = s.vram := rfl
@[simp] theorem setV_map (f : Ppu → BitVec 15) (s : State) : (setV f s).map = s.map := rfl
@[simp] theorem setV_mirror (f : Ppu → BitVec 15) (s : State) : (setV f s).mirror = s.mirror := rfl
@[simp] theorem setV_cart (f : Ppu → BitVec 15) (s : State) : (setV f s).cart = s.cart := rfl
@[simp] theorem setV_pads (f : Ppu → BitVec 15) (s : State) : (setV f s).pads = s.pads := rfl
@[simp] theorem setV_cfg (f : Ppu → BitVec 15) (s : State) : (setV f s).cfg = s.cfg := rfl

/-! setVblank -/
@[simp] theorem setVblank_a (s : State) : (setVblank s).a = s.a := rfl
@[simp] theorem setVblank_x (s : State) : (setVblank s).x = s.x := rfl
@[simp] theorem setVblank_y (s : State) : (setVblank s).y = s.y := rfl
@[simp] theorem setVblank_sp (s : State) : (setVblank s).sp = s.sp := rfl
@[simp] theorem setVblank_pc (s : State) : (setVblank s).pc = s.pc := rfl
@[simp] theorem setVblank_p (s : State) : (setVblank s).p = s.p := rfl
@[simp] theorem setVblank_cycles (s : State) : (setVblank s).cycles = s.cycles := rfl
@[simp] theorem setVblank_stall (s : State) : (setVblank s).stall = s.stall := rfl
@[simp] theorem setVblank_nmiPending (s : State) : (setVblank s).nmiPending = s.nmiPending := rfl
@[simp] theorem setVblank_irq (s : State) : (setVblank s).irq = s.irq := rfl
@[simp] theorem setVblank_fault (s : State) : (setVblank s).fault = s.fault := rfl
@[simp] theorem setVblank_ram (s : State) : (setVblank s).ram = s.ram := rfl
@[simp] theorem setVblank_prgRam (s : State) : (setVblank s).prgRam = s.prgRam := rfl
@[simp] theorem setVblank_prgRom (s : State) : (setVblank s).prgRom = s.prgRom := rfl
@[simp] theorem setVblank_chr (s : State) : (setVblank s).chr = s.chr := rfl
@[simp] theorem setVblank_oam (s : State) : (setVblank s).oam = s.oam := rfl
@[simp] theorem setVblank_palette (s : State) : (setVblank s).palette = s.palette := rfl
@[simp] theorem setVblank_vram (s : State) : (setVblank s).vram = s.vram := rfl
@[simp] theorem setVblank_map (s : State) : (setVblank s).map = s.map := rfl
@[simp] theorem setVblank_mirror (s : State) : (setVblank s).mirror = s.mirror := rfl
@[simp] theorem setVblank_cart (s : State) : (setVblank s).cart = s.cart := rfl
@[simp] theorem setVblank_pads (s : State) : (setVblank s).pads = s.pads := rfl
@[simp] theorem setVblank_cfg (s : State) : (setVblank s).cfg = s.cfg := rfl

/-! clearFlags -/
@[simp] theorem clearFlags_a (s : State) : (clearFlags s).a = s.a := rfl
@[simp] theorem clearFlags_x (s : State) : (clearFlags s).x = s.x := rfl
@[simp] theorem clearFlags_y (s : State) : (clearFlags s).y = s.y := rfl
@[simp] theorem clearFlags_sp (s : State) : (clearFlags s).sp = s.sp := rfl
@[simp] theorem clearFlags_pc (s : State) : (clearFlags s).pc = s.pc := rfl
@[simp] theorem clearFlags_p (s : State) : (clearFlags s).p = s.p := rfl
@[simp] theorem clearFlags_cycles (s : State) : (clearFlags s).cycles = s.cycles := rfl
@[simp] theorem clearFlags_stall (s : State) : (clearFlags s).stall = s.stall := rfl
@[simp] theorem clearFlags_nmiPending (s : State) : (clearFlags s).nmiPending = s.nmiPending := rfl
@[simp] theorem clearFlags_irq (s : State) : (clearFlags s).irq = s.irq := rfl
@[simp] theorem clearFlags_fault (s : State) : (clearFlags s).fault = s.fault := rfl
@[simp] theorem clearFlags_ram (s : State) : (clearFlags s).ram = s.ram := rfl
@[simp] theorem clearFlags_prgRam (s : State) : (clearFlags s).prgRam = s.prgRam := rfl
@[simp] theorem clearFlags_prgRom (s : State) : (clearFlags s).prgRom = s.prgRom := rfl
@[simp] theorem clearFlags_chr (s : State) : (clearFlags s).chr = s.chr := rfl
@[simp] theorem clearFlags_oam (s : State) : (clearFlags s).oam = s.oam := rfl
@[simp] theorem clearFlags_palette (s : State) : (clearFlags s).palette = s.palette := rfl
@[simp] theorem clearFlags_vram (s : State) : (clearFlags s).vram = s.vram := rfl
@[simp] theorem clearFlags_map (s : State) : (clearFlags s).map = s.map := rfl
@[simp] theorem clearFlags_mirror (s : State) : (clearFlags s).mirror = s.mirror := rfl
@[simp] theorem clearFlags_cart (s : State) : (clearFlags s).cart = s.cart := rfl
@[simp] theorem clearFlags_pads (s : State) : (clearFlags s).pads = s.pads := rfl
@[simp] theorem clearFlags_cfg (s : State) : (clearFlags s).cfg = s.cfg := rfl

/-! skipToNextFrame -/
@[simp] theorem skipToNextFrame_a (s : State) : (skipToNextFrame s).a = s.a := rfl
@[simp] theorem skipToNextFrame_x (s : State) : (skipToNextFrame s).x = s.x := rfl
@[simp] theorem skipToNextFrame_y (s : State) : (skipToNextFrame s).y = s.y := rfl
@[simp] theorem skipToNextFrame_sp (s : State) : (skipToNextFrame s).sp = s.sp := rfl
@[simp] theorem skipToNextFrame_pc (s : State) : (skipToNextFrame s).pc = s.pc := rfl
@[simp] theorem skipToNextFrame_p (s : State) : (skipToNextFrame s).p = s.p := rfl
@[simp] theorem skipToNextFrame_cycles (s : State) : (skipToNextFrame s).cycles = s.cycles := rfl
@[simp] theorem skipToNextFrame_stall (s : State) : (skipToNextFrame s).stall = s.stall := rfl
@[simp] theorem skipToNextFrame_nmiPending (s : State) : (skipToNextFrame s).nmiPending = s.nmiPending := rfl
@[simp] theorem skipToNextFrame_irq (s : State) : (skipToNextFrame s).irq = s.irq := rfl
@[simp] theorem skipToNextFrame_fault (s : State) : (skipToNextFrame s).fault = s.fault := rfl
@[simp] theorem skipToNextFrame_ram (s : State) : (skipToNextFrame s).ram = s.ram := rfl
@[simp] theorem skipToNextFrame_prgRam (s : State) : (skipToNextFrame s).prgRam = s.prgRam := rfl
@[simp] theorem skipToNextFrame_prgRom (s : State) : (skipToNextFrame s).prgRom = s.prgRom := rfl
@[simp] theorem skipToNextFrame_chr (s : State) : (skipToNextFrame s).chr = s.chr := rfl
@[simp] theorem skipToNextFrame_oam (s : State) : (skipToNextFrame s).oam = s.oam := rfl
@[simp] theorem skipToNextFrame_palette (s : State) : (skipToNextFrame s).palette = s.palette := rfl
@[simp] theorem skipToNextFrame_vram (s : State) : (skipToNextFrame s).vram = s.vram := rfl
@[simp] theorem skipToNextFrame_map (s : State) : (skipToNextFrame s).map = s.map := rfl
@[simp] theorem skipToNextFrame_mirror (s : State) : (skipToNextFrame s).mirror = s.mirror := rfl
@[simp] theorem skipToNextFrame_cart (s : State) : (skipToNextFrame s).cart = s.cart := rfl
@[simp] theorem skipToNextFrame_pads (s : State) : (skipToNextFrame s).pads = s.pads := rfl
@[simp] theorem skipToNextFrame_cfg (s : State) : (skipToNextFrame s).cfg = s.cfg := rfl

/-! renderPixel -/
@[simp] theorem renderPixel_a (s : State) : (renderPixel s).a = s.a := rfl
@[simp] theorem renderPixel_x (s : State) : (renderPixel s).x = s.x := rfl
@[simp] theorem renderPixel_y (s : State) : (renderPixel s).y = s.y := rfl
@[simp] theorem renderPixel_sp (s : State) : (renderPixel s).sp = s.sp := rfl
@[simp] theorem renderPixel_pc (s : State) : (renderPixel s).pc = s.pc := rfl
@[simp] theorem renderPixel_p (s : State) : (renderPixel s).p = s.p := rfl
@[simp] theorem renderPixel_cycles (s : State) : (renderPixel s).cycles = s.cycles := rfl
@[simp] theorem renderPixel_stall (s : State) : (renderPixel s).stall = s.stall := rfl
@[simp] theorem renderPixel_nmiPending (s : State) : (renderPixel s).nmiPending = s.nmiPending := rfl
@[simp] theorem renderPixel_irq (s : State) : (renderPixel s).irq = s.irq := rfl
@[simp] theorem renderPixel_fault (s : State) : (renderPixel s).fault = s.fault := rfl
@[simp] theorem renderPixel_ram (s : State) : (renderPixel s).ram = s.ram := rfl
@[simp] theorem renderPixel_prgRam (s : State) : (renderPixel s).prgRam = s.prgRam := rfl
@[simp] theorem renderPixel_prgRom (s : State) : (renderPixel s).prgRom = s.prgRom := rfl
@[simp] theorem renderPixel_chr (s : State) : (renderPixel s).chr = s.chr := rfl
@[simp] theorem renderPixel_oam (s : State) : (renderPixel s).oam = s.oam := rfl
@[simp] theorem renderPixel_palette (s : State) : (renderPixel s).palette = s.palette := rfl
@[simp] theorem renderPixel_vram (s : State) : (renderPixel s).vram = s.vram := rfl
@[simp] theorem renderPixel_map (s : State) : (renderPixel s).map = s.map := rfl
@[simp] theorem renderPixel_mirror (s : State) : (renderPixel s).mirror = s.mirror := rfl
@[simp] theorem renderPixel_cart (s : State) : (renderPixel s).cart = s.cart := rfl
@[simp] theorem renderPixel_pads (s : State) : (renderPixel s).pads = s.pads := rfl
@[simp] theorem renderPixel_cfg (s : State) : (renderPixel s).cfg = s.cfg := rfl

/-! The PPU items that the NMI condition and the increment of v leave. -/
@[simp] theorem nmiChange_ppu_cycle (s : State) : (nmiChange s).ppu.cycle = s.ppu.cycle := rfl
@[simp] theorem nmiChange_ppu_scanline (s : State) : (nmiChange s).ppu.scanline = s.ppu.scanline := rfl
@[simp] theorem nmiChange_ppu_frame (s : State) : (nmiChange s).ppu.frame = s.ppu.frame := rfl
@[simp] theorem nmiChange_ppu_odd (s : State) : (nmiChange s).ppu.odd = s.ppu.odd := rfl
@[simp] theorem nmiChange_ppu_v (s : State) : (nmiChange s).ppu.v = s.ppu.v := rfl
@[simp] theorem nmiChange_ppu_t (s : State) : (nmiChange s).ppu.t = s.ppu.t := rfl
@[simp] theorem nmiChange_ppu_x (s : State) : (nmiChange s).ppu.x = s.ppu.x := rfl
@[simp] theorem nmiChange_ppu_w (s : State) : (nmiChange s).ppu.w = s.ppu.w := rfl
@[simp] theorem nmiChange_ppu_ctrl (s : State) : (nmiChange s).ppu.ctrl = s.ppu.ctrl := rfl
@[simp] theorem nmiChange_ppu_mask (s : State) : (nmiChange s).ppu.mask = s.ppu.mask := rfl
@[simp] theorem nmiChange_ppu_vblank (s : State) : (nmiChange s).ppu.vblank = s.ppu.vblank := rfl
@[simp] theorem nmiChange_ppu_sprite0Hit (s : State) : (nmiChange s).ppu.sprite0Hit = s.ppu.sprite0Hit := rfl
@[simp] theorem nmiChange_ppu_overflow (s : State) : (nmiChange s).ppu.overflow = s.ppu.overflow := rfl
@[simp] theorem nmiChange_ppu_oamAddr (s : State) : (nmiChange s).ppu.oamAddr = s.ppu.oamAddr := rfl
@[simp] theorem nmiChange_ppu_latch (s : State) : (nmiChange s).ppu.latch = s.ppu.latch := rfl
@[simp] theorem nmiChange_ppu_readBuffer (s : State) : (nmiChange s).ppu.readBuffer = s.ppu.readBuffer := rfl
@[simp] theorem nmiChange_ppu_ntByte (s : State) : (nmiChange s).ppu.ntByte = s.ppu.ntByte := rfl
@[simp] theorem nmiChange_ppu_atBits (s : State) : (nmiChange s).ppu.atBits = s.ppu.atBits := rfl
@[simp] theorem nmiChange_ppu_ptLow (s : State) : (nmiChange s).ppu.ptLow = s.ppu.ptLow := rfl
@[simp] theorem nmiChange_ppu_ptHigh (s : State) : (nmiChange s).ppu.ptHigh = s.ppu.ptHigh := rfl
@[simp] theorem nmiChange_ppu_tileData (s : State) : (nmiChange s).ppu.tileData = s.ppu.tileData := rfl
@[simp] theorem nmiChange_ppu_spriteCount (s : State) : (nmiChange s).ppu.spriteCount = s.ppu.spriteCount := rfl
@[simp] theorem nmiChange_ppu_slots (s : State) : (nmiChange s).ppu.slots = s.ppu.slots := rfl
@[simp] theorem nmiChange_ppu_back (s : State) : (nmiChange s).ppu.back = s.ppu.back := rfl
@[simp] theorem nmiChange_ppu_front (s : State) : (nmiChange s).ppu.front = s.ppu.front := rfl
@[simp] theorem nmiChange_ppu_nmiPrevious (s : State) :
    (nmiChange s).ppu.nmiPrevious = (s.ppu.ctrl.getLsbD 7 && s.ppu.vblank) := rfl
@[simp] theorem incrementV_ppu_cycle (s : State) : (incrementV s).ppu.cycle = s.ppu.cycle := rfl
@[simp] theorem incrementV_ppu_scanline (s : State) : (incrementV s).ppu.scanline = s.ppu.scanline := rfl
@[simp] theorem incrementV_ppu_frame (s : State) : (incrementV s).ppu.frame = s.ppu.frame := rfl
@[simp] theorem incrementV_ppu_odd (s : State) : (incrementV s).ppu.odd = s.ppu.odd := rfl
@[simp] theorem incrementV_ppu_t (s : State) : (incrementV s).ppu.t = s.ppu.t := rfl
@[simp] theorem incrementV_ppu_x (s : State) : (incrementV s).ppu.x = s.ppu.x := rfl
@[simp] theorem incrementV_ppu_w (s : State) : (incrementV s).ppu.w = s.ppu.w := rfl
@[simp] theorem incrementV_ppu_ctrl (s : State) : (incrementV s).ppu.ctrl = s.ppu.ctrl := rfl
@[simp] theorem incrementV_ppu_mask (s : State) : (incrementV s).ppu.mask = s.ppu.mask := rfl
@[simp] theorem incrementV_ppu_vblank (s : State) : (incrementV s).ppu.vblank = s.ppu.vblank := rfl
@[simp] theorem incrementV_ppu_sprite0Hit (s : State) : (incrementV s).ppu.sprite0Hit = s.ppu.sprite0Hit := rfl
@[simp] theorem incrementV_ppu_overflow (s : State) : (incrementV s).ppu.overflow = s.ppu.overflow := rfl
@[simp] theorem incrementV_ppu_oamAddr (s : State) : (incrementV s).ppu.oamAddr = s.ppu.oamAddr := rfl
@[simp] theorem incrementV_ppu_latch (s : State) : (incrementV s).ppu.latch = s.ppu.latch := rfl
@[simp] theorem incrementV_ppu_readBuffer (s : State) : (incrementV s).ppu.readBuffer = s.ppu.readBuffer := rfl
@[simp] theorem incrementV_ppu_nmiPrevious (s : State) : (incrementV s).ppu.nmiPrevious = s.ppu.nmiPrevious := rfl
@[simp] theorem incrementV_ppu_nmiDelay (s : State) : (incrementV s).ppu.nmiDelay = s.ppu.nmiDelay := rfl
@[simp] theorem incrementV_ppu_ntByte (s : State) : (incrementV s).ppu.ntByte = s.ppu.ntByte := rfl
@[simp] theorem incrementV_ppu_atBits (s : State) : (incrementV s).ppu.atBits = s.ppu.atBits := rfl
@[simp] theorem incrementV_ppu_ptLow (s : State) : (incrementV s).ppu.ptLow = s.ppu.ptLow := rfl
@[simp] theorem incrementV_ppu_ptHigh (s : State) : (incrementV s).ppu.ptHigh = s.ppu.ptHigh := rfl
@[simp] theorem incrementV_ppu_tileData (s : State) : (incrementV s).ppu.tileData = s.ppu.tileData := rfl
@[simp] theorem incrementV_ppu_spriteCount (s : State) : (incrementV s).ppu.spriteCount = s.ppu.spriteCount := rfl
@[simp] theorem incrementV_ppu_slots (s : State) : (incrementV s).ppu.slots = s.ppu.slots := rfl
@[simp] theorem incrementV_ppu_back (s : State) : (incrementV s).ppu.back = s.ppu.back := rfl
@[simp] theorem incrementV_ppu_front (s : State) : (incrementV s).ppu.front = s.ppu.front := rfl

end Sys2Proof.Machine
end

