-- ==== Sys2Proof/Laws/Bus.lean ====
section
/-! SUPPORT. The bus in closed form: what a read and a write of an address answer, the stack, the vectors, taking an interrupt and returning from one, and what each of them leaves. -/

namespace Sys2Proof.Machine

/-! Reads. -/

/-- Everything a read of a mapped address can do. -/
theorem busRead_mapped (addr : Addr) (s : State) (h : unmapped addr = false) :
    busRead addr s = .ok (readValue addr s) (readEffect addr s) := by
  simp only [unmapped, Bool.and_eq_false_iff, decide_eq_false_iff_not] at h
  unfold busRead readValue readEffect
  simp only [mapperReadEffect_eq, inPpuWindow, Bool.and_eq_true, decide_eq_true_eq]
  split_ifs <;> first | rfl | omega

/-- Everything a read of an unmapped address does. -/
theorem busRead_unmapped (addr : Addr) (s : State) (h : unmapped addr = true) :
    busRead addr s = .fault (raiseUnmapped addr .read s) := by
  simp only [unmapped, Bool.and_eq_true, decide_eq_true_eq] at h
  unfold busRead
  simp only
  split_ifs <;> first | rfl | omega

/-- An address of work RAM reads its byte and has no side effect. -/
theorem busRead_ram (addr : Addr) (s : State) (h : addr.toNat < 0x2000) :
    busRead addr s = .ok (Memory.read s.ram (addr.toNat % 0x800)) s := by
  unfold busRead; simp [h]

/-- An address of the mapper's range reads through the mapper and has no side effect. -/
theorem busRead_mapper (addr : Addr) (s : State) (h : 0x6000 ≤ addr.toNat) :
    busRead addr s = .ok (mapperCpuRead addr.toNat s) s := by
  unfold busRead
  simp only [mapperReadEffect_eq]
  split_ifs <;> first | rfl | omega

/-- Outside the PPU registers and the controllers a read has no side effect. -/
theorem readEffect_of_no_device (addr : Addr) (s : State) (h : addr.toNat < 0x2000 ∨ 0x4020 ≤ addr.toNat) :
    readEffect addr s = s := by
  unfold readEffect
  simp only [inPpuWindow, Bool.and_eq_true, decide_eq_true_eq]
  split_ifs <;> first | rfl | omega

/-- Writing `pads` or `ppu` is all a PPU register read does. -/
theorem ppuRegRead_state (r : Nat) (s : State) : (ppuRegRead r s).2 = { s with ppu := (ppuRegRead r s).2.ppu } := by
  unfold ppuRegRead
  split
  · rfl
  · rfl
  · simp only [readPpuData, observeRead_eq]; rfl
  · rfl

/-- A read changes the PPU's items and the controllers only. -/
theorem readEffect_state (addr : Addr) (s : State) :
    readEffect addr s = { s with ppu := (readEffect addr s).ppu, pads := (readEffect addr s).pads } := by
  unfold readEffect
  simp only
  split_ifs
  · rw [ppuRegRead_state]
  · rfl
  · rfl
  · rfl

@[simp] theorem readEffect_a (addr : Addr) (s : State) : (readEffect addr s).a = s.a := by rw [readEffect_state]
@[simp] theorem readEffect_x (addr : Addr) (s : State) : (readEffect addr s).x = s.x := by rw [readEffect_state]
@[simp] theorem readEffect_y (addr : Addr) (s : State) : (readEffect addr s).y = s.y := by rw [readEffect_state]
@[simp] theorem readEffect_sp (addr : Addr) (s : State) : (readEffect addr s).sp = s.sp := by rw [readEffect_state]
@[simp] theorem readEffect_pc (addr : Addr) (s : State) : (readEffect addr s).pc = s.pc := by rw [readEffect_state]
@[simp] theorem readEffect_p (addr : Addr) (s : State) : (readEffect addr s).p = s.p := by rw [readEffect_state]
@[simp] theorem readEffect_cycles (addr : Addr) (s : State) : (readEffect addr s).cycles = s.cycles := by rw [readEffect_state]
@[simp] theorem readEffect_stall (addr : Addr) (s : State) : (readEffect addr s).stall = s.stall := by rw [readEffect_state]
@[simp] theorem readEffect_nmiPending (addr : Addr) (s : State) : (readEffect addr s).nmiPending = s.nmiPending := by rw [readEffect_state]
@[simp] theorem readEffect_irq (addr : Addr) (s : State) : (readEffect addr s).irq = s.irq := by rw [readEffect_state]
@[simp] theorem readEffect_fault (addr : Addr) (s : State) : (readEffect addr s).fault = s.fault := by rw [readEffect_state]
@[simp] theorem readEffect_ram (addr : Addr) (s : State) : (readEffect addr s).ram = s.ram := by rw [readEffect_state]
@[simp] theorem readEffect_prgRam (addr : Addr) (s : State) : (readEffect addr s).prgRam = s.prgRam := by rw [readEffect_state]
@[simp] theorem readEffect_prgRom (addr : Addr) (s : State) : (readEffect addr s).prgRom = s.prgRom := by rw [readEffect_state]
@[simp] theorem readEffect_chr (addr : Addr) (s : State) : (readEffect addr s).chr = s.chr := by rw [readEffect_state]
@[simp] theorem readEffect_oam (addr : Addr) (s : State) : (readEffect addr s).oam = s.oam := by rw [readEffect_state]
@[simp] theorem readEffect_palette (addr : Addr) (s : State) : (readEffect addr s).palette = s.palette := by rw [readEffect_state]
@[simp] theorem readEffect_vram (addr : Addr) (s : State) : (readEffect addr s).vram = s.vram := by rw [readEffect_state]
@[simp] theorem readEffect_map (addr : Addr) (s : State) : (readEffect addr s).map = s.map := by rw [readEffect_state]
@[simp] theorem readEffect_mirror (addr : Addr) (s : State) : (readEffect addr s).mirror = s.mirror := by rw [readEffect_state]
@[simp] theorem readEffect_cart (addr : Addr) (s : State) : (readEffect addr s).cart = s.cart := by rw [readEffect_state]
@[simp] theorem readEffect_cfg (addr : Addr) (s : State) : (readEffect addr s).cfg = s.cfg := by rw [readEffect_state]

/-- The value a PPU register reads as does not depend on the program counter or the cycle count. -/
theorem ppuRegRead_value_advance (r len cyc : Nat) (s : State) :
    (ppuRegRead r (advance len cyc s)).1 = (ppuRegRead r s).1 := by
  unfold ppuRegRead
  split
  · rfl
  · rfl
  · rfl
  · rfl

/-- The value of a read does not depend on the program counter or the cycle count. -/
theorem readValue_advance (addr : Addr) (len cyc : Nat) (s : State) :
    readValue addr (advance len cyc s) = readValue addr s := by
  unfold readValue
  simp only [ppuRegRead_value_advance]
  rfl

/-! Writes. -/

/-- A PPU register write changes the PPU's items, OAM, CHR-RAM, the palette and the nametables only. -/
theorem ppuRegWrite_state (r : Nat) (d : Byte) (s : State) :
    ppuRegWrite r d s = { s with
      ppu := (ppuRegWrite r d s).ppu, oam := (ppuRegWrite r d s).oam, chr := (ppuRegWrite r d s).chr
      palette := (ppuRegWrite r d s).palette, vram := (ppuRegWrite r d s).vram } := by
  unfold ppuRegWrite
  simp only
  split
  · rfl
  · rfl
  · rfl
  · rfl
  · simp only [writeScroll]; split <;> rfl
  · simp only [writePpuAddr]; split <;> rfl
  · simp only [writePpuData, observePpu_eq, ppuWrite, mapperPpuWrite, incrementV]
    split_ifs <;> rfl
  · rfl

/-- A request of a hook changes the windows, the mapper's own registers and the mirroring only (R558, R559). -/
theorem runAct_state (a : HookAct) (s : State) :
    runAct a s = { s with map := (runAct a s).map, mirror := (runAct a s).mirror } := by
  cases a <;> rfl

/-- What a CPU write of 0x6000 to 0xFFFF does, by mapper (R553, R560, R564, R567). -/
theorem mapperCpuWrite_cases (n : Nat) (v : Byte) (s : State) (hn : n ≤ 0xFFFF) :
    mapperCpuWrite n v s =
      if n ≤ 0x7FFF then { s with prgRam := Memory.write s.prgRam (n - 0x6000) v }
      else
        match s.cart.kind with
        | .nrom => s
        | .uxrom => setPrgWindow 0 v.toNat s
        | .cnrom => setChrWindow 0 v.toNat s := by
  unfold mapperCpuWrite
  cases s.cart.kind <;> by_cases h : n ≤ 0x7FFF
  · simp [mapperDesc, defaultCpuWrite, h]
  · simp [mapperDesc, defaultCpuWrite, h]
  · have h' : ¬ 0x8000 ≤ n := by omega
    simp [mapperDesc, defaultCpuWrite, WriteHook.covers, h, h']
  · have h' : 0x8000 ≤ n := by omega
    simp [mapperDesc, WriteHook.covers, runActs, runAct, h, h', hn]
  · have h' : ¬ 0x8000 ≤ n := by omega
    simp [mapperDesc, defaultCpuWrite, WriteHook.covers, h, h']
  · have h' : 0x8000 ≤ n := by omega
    simp [mapperDesc, WriteHook.covers, runActs, runAct, h, h', hn]

/-- A mapper write changes PRG-RAM and the windows only (no mapper of this model calls `SetMirror`, R559). -/
theorem mapperCpuWrite_state (n : Nat) (v : Byte) (s : State) (hn : n ≤ 0xFFFF) :
    mapperCpuWrite n v s = { s with prgRam := (mapperCpuWrite n v s).prgRam, map := (mapperCpuWrite n v s).map } := by
  rw [mapperCpuWrite_cases n v s hn]
  split
  · rfl
  · split <;> rfl

/-- The source page of an OAM DMA byte: its address. -/
theorem word16_toNat (hi lo : Byte) : (word16 hi lo).toNat = hi.toNat * 256 + lo.toNat := by
  have := lo.isLt
  simp only [word16, BitVec.toNat_append]
  rw [← Nat.shiftLeft_add_eq_or_of_lt this, Nat.shiftLeft_eq]

/-- An OAM DMA from a page with no unmapped address completes. -/
theorem oamCopy_ok (page : Byte) (h : dmaFaults page = false) (k i : Nat) (s : State) (hk : i + k ≤ 256) :
    oamCopy page k i s = .ok () ((List.range' i k).foldl (dmaByte page) s) := by
  induction k generalizing i s with
  | zero => rfl
  | succ k ih =>
    have hu : unmapped (word16 page (BitVec.ofNat 8 i)) = false := by
      simp only [dmaFaults, Bool.and_eq_false_iff, decide_eq_false_iff_not] at h
      simp only [unmapped, word16_toNat, BitVec.toNat_ofNat, Bool.and_eq_false_iff, decide_eq_false_iff_not]
      have := page.isLt
      omega
    rw [oamCopy, busRead_mapped _ _ hu]
    simp only [Res.andThen]
    rw [ih (i + 1) _ (by omega)]
    rfl

/-- A write that faults neither itself nor in its OAM DMA does all of its effect. -/
theorem busWrite_ok (addr : Addr) (v : Byte) (s : State) (h : writeFaults addr v = false) :
    busWrite addr v s = .ok () (writeEffect addr v s) := by
  simp only [writeFaults, unmapped, Bool.or_eq_false_iff, Bool.and_eq_false_iff, decide_eq_false_iff_not] at h
  unfold busWrite writeEffect
  simp only [inPpuWindow, Bool.and_eq_true, decide_eq_true_eq]
  split_ifs <;> first | rfl | omega | skip
  have hp : dmaFaults v = false := by
    rcases h.2 with h2 | h2
    · omega
    · exact h2
  simp only [oamDma, oamCopy_ok v hp 256 0 s (by omega), Res.andThen, dmaEffect, List.range_eq_range']
  congr 1
  have hcyc : ∀ (l : List Nat) (s : State), (l.foldl (dmaByte v) s).cycles = s.cycles ∧ (l.foldl (dmaByte v) s).stall = s.stall := by
    intro l
    induction l with
    | nil => simp
    | cons i l ih => intro s; simp [ih, dmaByte]
  rw [(hcyc _ s).1, (hcyc _ s).2]

/-- A write of an unmapped address faults. -/
theorem busWrite_unmapped (addr : Addr) (v : Byte) (s : State) (h : unmapped addr = true) :
    busWrite addr v s = .fault (raiseUnmapped addr .write s) := by
  simp only [unmapped, Bool.and_eq_true, decide_eq_true_eq] at h
  unfold busWrite
  simp only
  split_ifs <;> first | rfl | omega

/-- A write of work RAM stores its byte and does nothing else. -/
theorem busWrite_ram (addr : Addr) (v : Byte) (s : State) (h : addr.toNat < 0x2000) :
    busWrite addr v s = .ok () { s with ram := Memory.write s.ram (addr.toNat % 0x800) v } := by
  unfold busWrite; simp [h]

/-- What an OAM DMA leaves alone. -/
theorem dmaEffect_state (page : Byte) (s : State) :
    dmaEffect page s = { s with
      ppu := (dmaEffect page s).ppu, pads := (dmaEffect page s).pads, oam := (dmaEffect page s).oam
      stall := (dmaEffect page s).stall } := by
  have step : ∀ (t : State) (i : Nat), dmaByte page t i = { t with
      ppu := (dmaByte page t i).ppu, pads := (dmaByte page t i).pads, oam := (dmaByte page t i).oam } := by
    intro t i
    unfold dmaByte writeOamData
    simp only
    rw [readEffect_state]
  have all : ∀ (l : List Nat) (t : State), l.foldl (dmaByte page) t = { t with
      ppu := (l.foldl (dmaByte page) t).ppu, pads := (l.foldl (dmaByte page) t).pads
      oam := (l.foldl (dmaByte page) t).oam } := by
    intro l
    induction l with
    | nil => intro t; rfl
    | cons i l ih => intro t; rw [List.foldl_cons, ih, step]
  unfold dmaEffect
  simp only
  rw [all]

/-- A write changes none of the CPU's registers, the cycle count, the interrupt inputs, the ROM, the cartridge, the
mirroring or the parameters. -/
theorem writeEffect_state (addr : Addr) (v : Byte) (s : State) :
    writeEffect addr v s = { s with
      stall := (writeEffect addr v s).stall, ram := (writeEffect addr v s).ram, prgRam := (writeEffect addr v s).prgRam
      chr := (writeEffect addr v s).chr, oam := (writeEffect addr v s).oam, palette := (writeEffect addr v s).palette
      vram := (writeEffect addr v s).vram, ppu := (writeEffect addr v s).ppu, map := (writeEffect addr v s).map
      pads := (writeEffect addr v s).pads } := by
  have hn : addr.toNat ≤ 0xFFFF := by have := addr.isLt; omega
  unfold writeEffect
  simp only
  split_ifs
  · rfl
  · rw [ppuRegWrite_state]
  · rw [dmaEffect_state]
  · rfl
  · rfl
  · rw [mapperCpuWrite_state _ _ _ hn]

@[simp] theorem writeEffect_a (addr : Addr) (v : Byte) (s : State) : (writeEffect addr v s).a = s.a := by rw [writeEffect_state]
@[simp] theorem writeEffect_x (addr : Addr) (v : Byte) (s : State) : (writeEffect addr v s).x = s.x := by rw [writeEffect_state]
@[simp] theorem writeEffect_y (addr : Addr) (v : Byte) (s : State) : (writeEffect addr v s).y = s.y := by rw [writeEffect_state]
@[simp] theorem writeEffect_sp (addr : Addr) (v : Byte) (s : State) : (writeEffect addr v s).sp = s.sp := by rw [writeEffect_state]
@[simp] theorem writeEffect_pc (addr : Addr) (v : Byte) (s : State) : (writeEffect addr v s).pc = s.pc := by rw [writeEffect_state]
@[simp] theorem writeEffect_p (addr : Addr) (v : Byte) (s : State) : (writeEffect addr v s).p = s.p := by rw [writeEffect_state]
@[simp] theorem writeEffect_cycles (addr : Addr) (v : Byte) (s : State) : (writeEffect addr v s).cycles = s.cycles := by rw [writeEffect_state]
@[simp] theorem writeEffect_nmiPending (addr : Addr) (v : Byte) (s : State) : (writeEffect addr v s).nmiPending = s.nmiPending := by rw [writeEffect_state]
@[simp] theorem writeEffect_irq (addr : Addr) (v : Byte) (s : State) : (writeEffect addr v s).irq = s.irq := by rw [writeEffect_state]
@[simp] theorem writeEffect_fault (addr : Addr) (v : Byte) (s : State) : (writeEffect addr v s).fault = s.fault := by rw [writeEffect_state]
@[simp] theorem writeEffect_prgRom (addr : Addr) (v : Byte) (s : State) : (writeEffect addr v s).prgRom = s.prgRom := by rw [writeEffect_state]
@[simp] theorem writeEffect_mirror (addr : Addr) (v : Byte) (s : State) : (writeEffect addr v s).mirror = s.mirror := by rw [writeEffect_state]
@[simp] theorem writeEffect_cart (addr : Addr) (v : Byte) (s : State) : (writeEffect addr v s).cart = s.cart := by rw [writeEffect_state]
@[simp] theorem writeEffect_cfg (addr : Addr) (v : Byte) (s : State) : (writeEffect addr v s).cfg = s.cfg := by rw [writeEffect_state]

end Sys2Proof.Machine
end

