-- ==== Sys2Proof/Laws/Decode.lean ====
section
/-! SUPPORT. The opcode map and the encoder agree, row by row (spec/30_encoding.md R156). -/

namespace Sys2Proof

/-- A row whose shape builds only instructions that encode with the opcode byte `op`. -/
def Row.Fits (op : Byte) (row : Row) : Prop :=
  match row.shape with
  | .op0 i => encode i = [op]
  | .op1 f => ∀ b, encode (f b) = [op, b]
  | .op2 f => ∀ w, encode (f w) = [op, lowByte w, highByte w]

/-- Every row of a list fits its opcode, the first one being `op`. -/
def RowsFit : Byte → List Row → Prop
  | _, [] => True
  | op, row :: rows => row.Fits op ∧ RowsFit (op + 1) rows

theorem rowsFit0 : RowsFit 0x00 opcodeRow0 :=
  ⟨rfl, fun _ => rfl, rfl, fun _ => rfl, fun _ => rfl, fun _ => rfl, fun _ => rfl, fun _ => rfl, rfl, fun _ => rfl, rfl, fun _ => rfl, fun _ => rfl, fun _ => rfl, fun _ => rfl, fun _ => rfl, trivial⟩

theorem rowsFit1 : RowsFit 0x10 opcodeRow1 :=
  ⟨fun _ => rfl, fun _ => rfl, rfl, fun _ => rfl, fun _ => rfl, fun _ => rfl, fun _ => rfl, fun _ => rfl, rfl, fun _ => rfl, rfl, fun _ => rfl, fun _ => rfl, fun _ => rfl, fun _ => rfl, fun _ => rfl, trivial⟩

theorem rowsFit2 : RowsFit 0x20 opcodeRow2 :=
  ⟨fun _ => rfl, fun _ => rfl, rfl, fun _ => rfl, fun _ => rfl, fun _ => rfl, fun _ => rfl, fun _ => rfl, rfl, fun _ => rfl, rfl, fun _ => rfl, fun _ => rfl, fun _ => rfl, fun _ => rfl, fun _ => rfl, trivial⟩

theorem rowsFit3 : RowsFit 0x30 opcodeRow3 :=
  ⟨fun _ => rfl, fun _ => rfl, rfl, fun _ => rfl, fun _ => rfl, fun _ => rfl, fun _ => rfl, fun _ => rfl, rfl, fun _ => rfl, rfl, fun _ => rfl, fun _ => rfl, fun _ => rfl, fun _ => rfl, fun _ => rfl, trivial⟩

theorem rowsFit4 : RowsFit 0x40 opcodeRow4 :=
  ⟨rfl, fun _ => rfl, rfl, fun _ => rfl, fun _ => rfl, fun _ => rfl, fun _ => rfl, fun _ => rfl, rfl, fun _ => rfl, rfl, fun _ => rfl, fun _ => rfl, fun _ => rfl, fun _ => rfl, fun _ => rfl, trivial⟩

theorem rowsFit5 : RowsFit 0x50 opcodeRow5 :=
  ⟨fun _ => rfl, fun _ => rfl, rfl, fun _ => rfl, fun _ => rfl, fun _ => rfl, fun _ => rfl, fun _ => rfl, rfl, fun _ => rfl, rfl, fun _ => rfl, fun _ => rfl, fun _ => rfl, fun _ => rfl, fun _ => rfl, trivial⟩

theorem rowsFit6 : RowsFit 0x60 opcodeRow6 :=
  ⟨rfl, fun _ => rfl, rfl, fun _ => rfl, fun _ => rfl, fun _ => rfl, fun _ => rfl, fun _ => rfl, rfl, fun _ => rfl, rfl, fun _ => rfl, fun _ => rfl, fun _ => rfl, fun _ => rfl, fun _ => rfl, trivial⟩

theorem rowsFit7 : RowsFit 0x70 opcodeRow7 :=
  ⟨fun _ => rfl, fun _ => rfl, rfl, fun _ => rfl, fun _ => rfl, fun _ => rfl, fun _ => rfl, fun _ => rfl, rfl, fun _ => rfl, rfl, fun _ => rfl, fun _ => rfl, fun _ => rfl, fun _ => rfl, fun _ => rfl, trivial⟩

theorem rowsFit8 : RowsFit 0x80 opcodeRow8 :=
  ⟨fun _ => rfl, fun _ => rfl, fun _ => rfl, fun _ => rfl, fun _ => rfl, fun _ => rfl, fun _ => rfl, fun _ => rfl, rfl, fun _ => rfl, rfl, fun _ => rfl, fun _ => rfl, fun _ => rfl, fun _ => rfl, fun _ => rfl, trivial⟩

theorem rowsFit9 : RowsFit 0x90 opcodeRow9 :=
  ⟨fun _ => rfl, fun _ => rfl, rfl, fun _ => rfl, fun _ => rfl, fun _ => rfl, fun _ => rfl, fun _ => rfl, rfl, fun _ => rfl, rfl, fun _ => rfl, fun _ => rfl, fun _ => rfl, fun _ => rfl, fun _ => rfl, trivial⟩

theorem rowsFitA : RowsFit 0xA0 opcodeRowA :=
  ⟨fun _ => rfl, fun _ => rfl, fun _ => rfl, fun _ => rfl, fun _ => rfl, fun _ => rfl, fun _ => rfl, fun _ => rfl, rfl, fun _ => rfl, rfl, fun _ => rfl, fun _ => rfl, fun _ => rfl, fun _ => rfl, fun _ => rfl, trivial⟩

theorem rowsFitB : RowsFit 0xB0 opcodeRowB :=
  ⟨fun _ => rfl, fun _ => rfl, rfl, fun _ => rfl, fun _ => rfl, fun _ => rfl, fun _ => rfl, fun _ => rfl, rfl, fun _ => rfl, rfl, fun _ => rfl, fun _ => rfl, fun _ => rfl, fun _ => rfl, fun _ => rfl, trivial⟩

theorem rowsFitC : RowsFit 0xC0 opcodeRowC :=
  ⟨fun _ => rfl, fun _ => rfl, fun _ => rfl, fun _ => rfl, fun _ => rfl, fun _ => rfl, fun _ => rfl, fun _ => rfl, rfl, fun _ => rfl, rfl, fun _ => rfl, fun _ => rfl, fun _ => rfl, fun _ => rfl, fun _ => rfl, trivial⟩

theorem rowsFitD : RowsFit 0xD0 opcodeRowD :=
  ⟨fun _ => rfl, fun _ => rfl, rfl, fun _ => rfl, fun _ => rfl, fun _ => rfl, fun _ => rfl, fun _ => rfl, rfl, fun _ => rfl, rfl, fun _ => rfl, fun _ => rfl, fun _ => rfl, fun _ => rfl, fun _ => rfl, trivial⟩

theorem rowsFitE : RowsFit 0xE0 opcodeRowE :=
  ⟨fun _ => rfl, fun _ => rfl, fun _ => rfl, fun _ => rfl, fun _ => rfl, fun _ => rfl, fun _ => rfl, fun _ => rfl, rfl, fun _ => rfl, rfl, fun _ => rfl, fun _ => rfl, fun _ => rfl, fun _ => rfl, fun _ => rfl, trivial⟩

theorem rowsFitF : RowsFit 0xF0 opcodeRowF :=
  ⟨fun _ => rfl, fun _ => rfl, rfl, fun _ => rfl, fun _ => rfl, fun _ => rfl, fun _ => rfl, fun _ => rfl, rfl, fun _ => rfl, rfl, fun _ => rfl, fun _ => rfl, fun _ => rfl, fun _ => rfl, fun _ => rfl, trivial⟩

theorem RowsFit.append (op : Byte) (rows more : List Row) (h : RowsFit op rows)
    (k : RowsFit (op + BitVec.ofNat 8 rows.length) more) : RowsFit op (rows ++ more) := by
  induction rows generalizing op with
  | nil => simpa [RowsFit] using k
  | cons row rows ih =>
    refine ⟨h.1, ih (op + 1) h.2 ?_⟩
    have e : op + BitVec.ofNat 8 (row :: rows).length = op + 1 + BitVec.ofNat 8 rows.length := by
      apply BitVec.eq_of_toNat_eq
      simp only [List.length_cons, BitVec.toNat_add, BitVec.toNat_ofNat, show (1 : Byte).toNat = 1 from rfl]
      omega
    rwa [e] at k

theorem RowsFit.getElem? (op : Byte) (rows : List Row) (h : RowsFit op rows) (n : Nat) (row : Row)
    (hn : rows[n]? = some row) : row.Fits (op + BitVec.ofNat 8 n) := by
  induction rows generalizing op n with
  | nil => simp at hn
  | cons r rows ih =>
    cases n with
    | zero =>
      simp only [List.getElem?_cons_zero, Option.some.injEq] at hn
      subst hn
      simpa using h.1
    | succ n =>
      have e : op + BitVec.ofNat 8 (n + 1) = op + 1 + BitVec.ofNat 8 n := by
        apply BitVec.eq_of_toNat_eq
        simp only [BitVec.toNat_add, BitVec.toNat_ofNat, show (1 : Byte).toNat = 1 from rfl]
        omega
      rw [e]
      exact ih (op + 1) h.2 n (by simpa using hn)

theorem rowLengths : opcodeRow0.length = 16 ∧
    opcodeRow1.length = 16 ∧
    opcodeRow2.length = 16 ∧
    opcodeRow3.length = 16 ∧
    opcodeRow4.length = 16 ∧
    opcodeRow5.length = 16 ∧
    opcodeRow6.length = 16 ∧
    opcodeRow7.length = 16 ∧
    opcodeRow8.length = 16 ∧
    opcodeRow9.length = 16 ∧
    opcodeRowA.length = 16 ∧
    opcodeRowB.length = 16 ∧
    opcodeRowC.length = 16 ∧
    opcodeRowD.length = 16 ∧
    opcodeRowE.length = 16 ∧
    opcodeRowF.length = 16 := by
  refine ⟨rfl, rfl, rfl, rfl, rfl, rfl, rfl, rfl, rfl, rfl, rfl, rfl, rfl, rfl, rfl, rfl⟩

theorem rowsFit_opcodeTable : RowsFit 0x00 opcodeTable := by
  unfold opcodeTable
  repeat' apply RowsFit.append
  · exact rowsFit0
  · simp only [rowLengths]; exact rowsFit1
  · simp only [List.length_append, rowLengths]; exact rowsFit2
  · simp only [List.length_append, rowLengths]; exact rowsFit3
  · simp only [List.length_append, rowLengths]; exact rowsFit4
  · simp only [List.length_append, rowLengths]; exact rowsFit5
  · simp only [List.length_append, rowLengths]; exact rowsFit6
  · simp only [List.length_append, rowLengths]; exact rowsFit7
  · simp only [List.length_append, rowLengths]; exact rowsFit8
  · simp only [List.length_append, rowLengths]; exact rowsFit9
  · simp only [List.length_append, rowLengths]; exact rowsFitA
  · simp only [List.length_append, rowLengths]; exact rowsFitB
  · simp only [List.length_append, rowLengths]; exact rowsFitC
  · simp only [List.length_append, rowLengths]; exact rowsFitD
  · simp only [List.length_append, rowLengths]; exact rowsFitE
  · simp only [List.length_append, rowLengths]; exact rowsFitF

/-- The row of an opcode byte builds only instructions with that opcode byte. -/
theorem rowOf_fits (op : Byte) (row : Row) (h : rowOf op = some row) : row.Fits op := by
  have := RowsFit.getElem? 0x00 opcodeTable rowsFit_opcodeTable op.toNat row h
  simpa using this

/-- Every opcode byte has a row (R160). -/
theorem rowOf_isSome (op : Byte) : ∃ row, rowOf op = some row := by
  have hl : opcodeTable.length = 256 := by
    unfold opcodeTable
    simp only [List.length_append, rowLengths]
  exact ⟨opcodeTable[op.toNat]'(by rw [hl]; exact op.isLt), List.getElem?_eq_getElem _⟩

end Sys2Proof
end

