-- ==== Sys2Proof/Laws/Ops.lean ====
section
/-! SUPPORT. The stack, the vectors, taking an interrupt and returning from one: everything each can do. -/

namespace Sys2Proof.Machine

@[simp] theorem word16_high_low (w : Addr) : word16 (highByte w) (lowByte w) = w := by
  apply BitVec.eq_of_toNat_eq
  rw [word16_toNat]
  simp only [highByte, lowByte, BitVec.extractLsb'_toNat, Nat.shiftRight_eq_div_pow]
  have := w.isLt
  omega

@[simp] theorem highByte_word16 (hi lo : Byte) : highByte (word16 hi lo) = hi := by
  apply BitVec.eq_of_toNat_eq
  simp only [highByte, BitVec.extractLsb'_toNat, word16_toNat, Nat.shiftRight_eq_div_pow]
  have := hi.isLt; have := lo.isLt
  omega

@[simp] theorem lowByte_word16 (hi lo : Byte) : lowByte (word16 hi lo) = lo := by
  apply BitVec.eq_of_toNat_eq
  simp only [lowByte, BitVec.extractLsb'_toNat, word16_toNat, Nat.shiftRight_eq_div_pow]
  have := hi.isLt; have := lo.isLt
  omega

theorem zeroPage_toNat (b : Byte) : (zeroPage b).toNat = b.toNat := by simp [zeroPage, word16_toNat]

theorem stackSlot_toNat (sp : Byte) : (stackSlot sp).toNat = 0x100 + sp.toNat := by simp [stackSlot, word16_toNat]

/-- A push never faults (R260). -/
theorem push_eq (v : Byte) (s : State) : push v s = .ok () (pushed v s) := by
  have hs := stackSlot_toNat s.sp
  have := s.sp.isLt
  rw [push, busWrite_ram _ _ _ (by omega), hs, Nat.mod_eq_of_lt (by omega)]
  rfl

theorem sp_add_toNat (sp : Byte) (k : Nat) : (sp + BitVec.ofNat 8 k).toNat = (sp.toNat + k) % 256 := by
  simp [BitVec.toNat_add]

/-- A pull never faults (R262). -/
theorem pull_eq (s : State) : pull s = .ok (stackByte s 1) { s with sp := s.sp + 1 } := by
  have hs := stackSlot_toNat (s.sp + 1)
  have := (s.sp + 1).isLt
  rw [pull, busRead_ram _ _ (by omega), hs, Nat.mod_eq_of_lt (by omega)]
  rw [show s.sp + 1 = s.sp + BitVec.ofNat 8 1 from rfl, sp_add_toNat]
  rfl

theorem push16_eq (w : Addr) (s : State) : push16 w s = .ok () (pushed (lowByte w) (pushed (highByte w) s)) := by
  rw [push16, push_eq]; simp only [Res.andThen]; rw [push_eq]

theorem stackByte_pulled (s : State) (k : Nat) : stackByte { s with sp := s.sp + 1 } k = stackByte s (k + 1) := by
  simp only [stackByte]
  rw [show s.sp + 1 = s.sp + BitVec.ofNat 8 1 from rfl, sp_add_toNat]
  congr 2
  omega

theorem pull16_eq (s : State) :
    pull16 s = .ok (word16 (stackByte s 2) (stackByte s 1)) { s with sp := s.sp + 2 } := by
  rw [pull16, pull_eq]
  simp only [Res.andThen]
  rw [pull_eq, stackByte_pulled]
  simp only [BitVec.add_assoc]
  rfl

/-- Reading two bytes of the mapper's range. -/
theorem read16_mapper (addr : Addr) (s : State) (h1 : 0x6000 ≤ addr.toNat) (h2 : addr.toNat < 0xFFFF) :
    read16 addr s = .ok (vectorAt addr.toNat s) s := by
  have h3 : (addr + 1).toNat = addr.toNat + 1 := by
    rw [BitVec.toNat_add, show (1 : Addr).toNat = 1 from rfl]; omega
  rw [read16, readPair, busRead_mapper _ _ h1]
  simp only [Res.andThen]
  rw [busRead_mapper _ _ (by omega), h3]
  rfl

/-- Taking an interrupt through a vector of the mapper's range never faults. -/
theorem takeInterrupt_eq (ret : Addr) (status : Byte) (vector : Addr) (s : State) (h1 : 0x6000 ≤ vector.toNat)
    (h2 : vector.toNat < 0xFFFF) : takeInterrupt ret status vector s = .ok () (interrupted ret status vector.toNat s) := by
  rw [takeInterrupt, push16_eq]
  simp only [Res.andThen]
  rw [push_eq]
  simp only
  rw [read16_mapper _ _ h1 h2]
  rfl

/-- Returning from an interrupt never faults (R332). -/
theorem returnFromInterrupt_eq (s : State) :
    returnFromInterrupt s = .ok () { s with
      p := Flags.ofByte (stackByte s 1), sp := s.sp + 3, pc := word16 (stackByte s 3) (stackByte s 2) } := by
  have h : ∀ (q : Flags) (k : Nat), stackByte { s with sp := s.sp + 1, p := q } k = stackByte s (k + 1) :=
    fun _ k => stackByte_pulled s k
  rw [returnFromInterrupt, pull_eq]
  simp only [Res.andThen]
  rw [pull16_eq]
  simp only [h, BitVec.add_assoc]
  rfl

theorem nmiEntry_eq (s : State) :
    nmiEntry s = .ok () (charge 7 (interrupted s.pc (interruptStatus s) 0xFFFA { s with nmiPending := false })) := by
  rw [nmiEntry, takeInterrupt_eq _ _ _ _ (by decide) (by decide)]; rfl

theorem irqEntry_eq (s : State) :
    irqEntry s = .ok () (charge 7 (interrupted s.pc (interruptStatus s) 0xFFFE s)) := by
  rw [irqEntry, takeInterrupt_eq _ _ _ _ (by decide) (by decide)]; rfl

/-- The reset vector's read never faults (R601). -/
theorem startAtVector_eq (s : State) : startAtVector s = { s with pc := vectorAt 0xFFFC s } := by
  rw [startAtVector, read16_mapper _ _ (by decide) (by decide)]; rfl

end Sys2Proof.Machine
end

