-- ==== Sys2Proof/Laws/Operands.lean ====
section
/-! SUPPORT. The operand forms and the shapes of instruction: everything each can do, in closed form. -/

namespace Sys2Proof.Machine

theorem zeroPage_eq (b : Byte) : zeroPage b = BitVec.ofNat 16 b.toNat := by
  apply BitVec.eq_of_toNat_eq
  have := b.isLt
  rw [zeroPage_toNat, BitVec.toNat_ofNat]
  omega

theorem word16_eq_ofNat (hi lo : Byte) : word16 hi lo = BitVec.ofNat 16 (lo.toNat + 256 * hi.toNat) := by
  apply BitVec.eq_of_toNat_eq
  have := hi.isLt
  have := lo.isLt
  rw [word16_toNat, BitVec.toNat_ofNat]
  omega

/-- A zero-page pointer read is two reads of work RAM (R206). -/
theorem read16ZP_eq (p : Byte) (s : State) : read16ZP p s = .ok (pointerAt p.toNat s) s := by
  have h1 := p.isLt
  have h2 := (p + 1).isLt
  have h3 : (p + 1).toNat = (p.toNat + 1) % 256 := by simp [BitVec.toNat_add]
  rw [read16ZP, readPair, busRead_ram _ _ (by rw [zeroPage_toNat]; omega)]
  simp only [Res.andThen]
  rw [busRead_ram _ _ (by rw [zeroPage_toNat]; omega)]
  simp only [zeroPage_toNat, h3]
  rw [Nat.mod_eq_of_lt (show p.toNat < 0x800 by omega), Nat.mod_eq_of_lt (show (p.toNat + 1) % 256 < 0x800 by omega),
    word16_eq_ofNat]
  rfl

theorem pageDiffers_eq (a b : Addr) : pageDiffers a b = decide (a.toNat / 256 ≠ b.toNat / 256) := by
  have ha := a.isLt
  have hb := b.isLt
  simp only [pageDiffers, highByte]
  congr 1
  rw [ne_eq, ne_eq, ← BitVec.toNat_inj]
  simp only [BitVec.extractLsb'_toNat, Nat.shiftRight_eq_div_pow, eq_iff_iff]
  omega

theorem indexed_eq (base : Addr) (r : Byte) :
    indexed base r = ⟨BitVec.ofNat 16 (base.toNat + r.toNat),
      decide (base.toNat / 256 ≠ (BitVec.ofNat 16 (base.toNat + r.toNat)).toNat / 256)⟩ := by
  have h : base + r.setWidth 16 = BitVec.ofNat 16 (base.toNat + r.toNat) := by
    apply BitVec.eq_of_toNat_eq
    have := r.isLt
    simp only [BitVec.toNat_add, BitVec.toNat_setWidth, BitVec.toNat_ofNat]
    omega
  simp only [indexed, pageDiffers_eq, h]

theorem zpIndex_eq (b r : Byte) : zpIndex b r = BitVec.ofNat 16 ((b.toNat + r.toNat) % 256) := by
  rw [zpIndex, zeroPage_eq, BitVec.toNat_add]

/-- Resolving a memory operand: its closed form; it never faults and changes nothing (R211 to R219). -/
theorem resolve_eq (m : MemOp) (s : State) : resolve m s = .ok ⟨eaOf m s, crossedOf m s⟩ s := by
  cases m with
  | zp b => simp only [resolve, eaOf, crossedOf, zeroPage_eq]
  | zpx b => simp only [resolve, eaOf, crossedOf, zpIndex_eq]
  | zpy b => simp only [resolve, eaOf, crossedOf, zpIndex_eq]
  | abs w => rfl
  | abx w => simp only [resolve, eaOf, crossedOf, indexed_eq]; rfl
  | aby w => simp only [resolve, eaOf, crossedOf, indexed_eq]; rfl
  | izx b =>
    have h : (b + s.x).toNat = (b.toNat + s.x.toNat) % 256 := by simp [BitVec.toNat_add]
    simp only [resolve, eaOf, crossedOf, read16ZP_eq, Res.andThen, h]
  | izy b => simp only [resolve, eaOf, crossedOf, read16ZP_eq, Res.andThen, indexed_eq]; rfl

/-- A read instruction whose operand is readable. -/
theorem readInstr_next (base : Nat) (o : ReadOp) (f : Byte → State → State) (s : State) (h : o.mapped s = true) :
    readInstr base o f s = .next (f (o.value s) (o.after base s)) := by
  cases o with
  | imm b => rfl
  | mem m =>
    have hu : unmapped (eaOf m s) = false := by simpa [ReadOp.mapped] using h
    simp only [readInstr, resolve_eq, Res.finish, busRead_mapped _ _ hu, readValue_advance]
    rfl

/-- A read instruction whose operand lies at an unmapped address. -/
theorem readInstr_fault (base : Nat) (o : ReadOp) (f : Byte → State → State) (s : State) (h : o.mapped s = false) :
    readInstr base o f s = .fault (raiseUnmapped (o.address s) .read (o.charged base s)) := by
  cases o with
  | imm b => simp [ReadOp.mapped] at h
  | mem m =>
    have hu : unmapped (eaOf m s) = true := by simpa [ReadOp.mapped] using h
    simp only [readInstr, resolve_eq, Res.finish, busRead_unmapped _ _ hu]
    rfl

/-- A write instruction whose write does not fault. -/
theorem storeInstr_next (base : Nat) (m : MemOp) (value : State → Byte) (s : State)
    (h : writeFaults (eaOf m s) (value (advance m.length base s)) = false) :
    storeInstr base m value s =
      .next (writeEffect (eaOf m s) (value (advance m.length base s)) (advance m.length base s)) := by
  simp only [storeInstr, resolve_eq, Res.finish, busWrite_ok _ _ _ h]

/-- A write instruction whose address is unmapped. -/
theorem storeInstr_fault (base : Nat) (m : MemOp) (value : State → Byte) (s : State) (h : unmapped (eaOf m s) = true) :
    storeInstr base m value s = .fault (raiseUnmapped (eaOf m s) .write (advance m.length base s)) := by
  simp only [storeInstr, resolve_eq, Res.finish, busWrite_unmapped _ _ _ h]

/-- A read-modify-write instruction whose accesses do not fault. -/
theorem rmwInstr_next (base : Nat) (m : MemOp) (modify : Byte → Bool → Modified) (after : Byte → State → State)
    (s : State) (h1 : unmapped (eaOf m s) = false)
    (h2 : writeFaults (eaOf m s) (modify (readValue (eaOf m s) s) s.p.c).r = false) :
    rmwInstr base m modify after s =
      .next (after (modify (readValue (eaOf m s) s) s.p.c).r
        (writeEffect (eaOf m s) (modify (readValue (eaOf m s) s) s.p.c).r
          { readEffect (eaOf m s) (advance m.length base s) with
            p := { s.p with c := (modify (readValue (eaOf m s) s) s.p.c).c } })) := by
  simp only [rmwInstr, resolve_eq, Res.finish, busRead_mapped _ _ h1, readValue_advance, readEffect_p, advance_p,
    busWrite_ok _ _ _ h2]

/-- A read-modify-write instruction whose address is unmapped faults at its read. -/
theorem rmwInstr_fault (base : Nat) (m : MemOp) (modify : Byte → Bool → Modified) (after : Byte → State → State)
    (s : State) (h : unmapped (eaOf m s) = true) :
    rmwInstr base m modify after s = .fault (raiseUnmapped (eaOf m s) .read (advance m.length base s)) := by
  simp only [rmwInstr, resolve_eq, Res.finish, busRead_unmapped _ _ h]

/-- An unofficial instruction where the unofficial opcodes execute. -/
theorem gated_nestest (op : Byte) (effect : State → Outcome) (s : State) (h : s.cfg.unofficial = .nestest) :
    gated op effect s = effect s := by simp only [gated, h]

/-- An unofficial instruction where the unofficial opcodes fault. -/
theorem gated_fault (op : Byte) (effect : State → Outcome) (s : State) (h : s.cfg.unofficial = .fault) :
    gated op effect s = illegalInstr op s := by simp only [gated, h]

end Sys2Proof.Machine
end

