-- ==== Sys2Proof/Laws/PerInstr.lean ====
section
/-! SUPPORT. Statements about every instruction as syntax, one lemma per constructor. -/

namespace Sys2Proof.Laws.OpcodeLength

open Sys2Proof

/-- The encoding of an instruction has the length of its mode (R152). -/
def Statement (i : Instr) : Prop := (encode i).length = i.mode.length

theorem ldaIzx (b : Byte) : Statement (Instr.ldaIzx b) := rfl
theorem ldaZp (b : Byte) : Statement (Instr.ldaZp b) := rfl
theorem ldaImm (b : Byte) : Statement (Instr.ldaImm b) := rfl
theorem ldaAbs (w : Addr) : Statement (Instr.ldaAbs w) := rfl
theorem ldaIzy (b : Byte) : Statement (Instr.ldaIzy b) := rfl
theorem ldaZpx (b : Byte) : Statement (Instr.ldaZpx b) := rfl
theorem ldaAby (w : Addr) : Statement (Instr.ldaAby w) := rfl
theorem ldaAbx (w : Addr) : Statement (Instr.ldaAbx w) := rfl
theorem ldxImm (b : Byte) : Statement (Instr.ldxImm b) := rfl
theorem ldxZp (b : Byte) : Statement (Instr.ldxZp b) := rfl
theorem ldxAbs (w : Addr) : Statement (Instr.ldxAbs w) := rfl
theorem ldxZpy (b : Byte) : Statement (Instr.ldxZpy b) := rfl
theorem ldxAby (w : Addr) : Statement (Instr.ldxAby w) := rfl
theorem ldyImm (b : Byte) : Statement (Instr.ldyImm b) := rfl
theorem ldyZp (b : Byte) : Statement (Instr.ldyZp b) := rfl
theorem ldyAbs (w : Addr) : Statement (Instr.ldyAbs w) := rfl
theorem ldyZpx (b : Byte) : Statement (Instr.ldyZpx b) := rfl
theorem ldyAbx (w : Addr) : Statement (Instr.ldyAbx w) := rfl
theorem staIzx (b : Byte) : Statement (Instr.staIzx b) := rfl
theorem staZp (b : Byte) : Statement (Instr.staZp b) := rfl
theorem staAbs (w : Addr) : Statement (Instr.staAbs w) := rfl
theorem staIzy (b : Byte) : Statement (Instr.staIzy b) := rfl
theorem staZpx (b : Byte) : Statement (Instr.staZpx b) := rfl
theorem staAby (w : Addr) : Statement (Instr.staAby w) := rfl
theorem staAbx (w : Addr) : Statement (Instr.staAbx w) := rfl
theorem stxZp (b : Byte) : Statement (Instr.stxZp b) := rfl
theorem stxAbs (w : Addr) : Statement (Instr.stxAbs w) := rfl
theorem stxZpy (b : Byte) : Statement (Instr.stxZpy b) := rfl
theorem styZp (b : Byte) : Statement (Instr.styZp b) := rfl
theorem styAbs (w : Addr) : Statement (Instr.styAbs w) := rfl
theorem styZpx (b : Byte) : Statement (Instr.styZpx b) := rfl
theorem tax : Statement Instr.tax := rfl
theorem tay : Statement Instr.tay := rfl
theorem txa : Statement Instr.txa := rfl
theorem tya : Statement Instr.tya := rfl
theorem tsx : Statement Instr.tsx := rfl
theorem txs : Statement Instr.txs := rfl
theorem pha : Statement Instr.pha := rfl
theorem php : Statement Instr.php := rfl
theorem pla : Statement Instr.pla := rfl
theorem plp : Statement Instr.plp := rfl
theorem adcIzx (b : Byte) : Statement (Instr.adcIzx b) := rfl
theorem adcZp (b : Byte) : Statement (Instr.adcZp b) := rfl
theorem adcImm (b : Byte) : Statement (Instr.adcImm b) := rfl
theorem adcAbs (w : Addr) : Statement (Instr.adcAbs w) := rfl
theorem adcIzy (b : Byte) : Statement (Instr.adcIzy b) := rfl
theorem adcZpx (b : Byte) : Statement (Instr.adcZpx b) := rfl
theorem adcAby (w : Addr) : Statement (Instr.adcAby w) := rfl
theorem adcAbx (w : Addr) : Statement (Instr.adcAbx w) := rfl
theorem sbcIzx (b : Byte) : Statement (Instr.sbcIzx b) := rfl
theorem sbcZp (b : Byte) : Statement (Instr.sbcZp b) := rfl
theorem sbcImm (b : Byte) : Statement (Instr.sbcImm b) := rfl
theorem sbcAbs (w : Addr) : Statement (Instr.sbcAbs w) := rfl
theorem sbcIzy (b : Byte) : Statement (Instr.sbcIzy b) := rfl
theorem sbcZpx (b : Byte) : Statement (Instr.sbcZpx b) := rfl
theorem sbcAby (w : Addr) : Statement (Instr.sbcAby w) := rfl
theorem sbcAbx (w : Addr) : Statement (Instr.sbcAbx w) := rfl
theorem andIzx (b : Byte) : Statement (Instr.andIzx b) := rfl
theorem andZp (b : Byte) : Statement (Instr.andZp b) := rfl
theorem andImm (b : Byte) : Statement (Instr.andImm b) := rfl
theorem andAbs (w : Addr) : Statement (Instr.andAbs w) := rfl
theorem andIzy (b : Byte) : Statement (Instr.andIzy b) := rfl
theorem andZpx (b : Byte) : Statement (Instr.andZpx b) := rfl
theorem andAby (w : Addr) : Statement (Instr.andAby w) := rfl
theorem andAbx (w : Addr) : Statement (Instr.andAbx w) := rfl
theorem oraIzx (b : Byte) : Statement (Instr.oraIzx b) := rfl
theorem oraZp (b : Byte) : Statement (Instr.oraZp b) := rfl
theorem oraImm (b : Byte) : Statement (Instr.oraImm b) := rfl
theorem oraAbs (w : Addr) : Statement (Instr.oraAbs w) := rfl
theorem oraIzy (b : Byte) : Statement (Instr.oraIzy b) := rfl
theorem oraZpx (b : Byte) : Statement (Instr.oraZpx b) := rfl
theorem oraAby (w : Addr) : Statement (Instr.oraAby w) := rfl
theorem oraAbx (w : Addr) : Statement (Instr.oraAbx w) := rfl
theorem eorIzx (b : Byte) : Statement (Instr.eorIzx b) := rfl
theorem eorZp (b : Byte) : Statement (Instr.eorZp b) := rfl
theorem eorImm (b : Byte) : Statement (Instr.eorImm b) := rfl
theorem eorAbs (w : Addr) : Statement (Instr.eorAbs w) := rfl
theorem eorIzy (b : Byte) : Statement (Instr.eorIzy b) := rfl
theorem eorZpx (b : Byte) : Statement (Instr.eorZpx b) := rfl
theorem eorAby (w : Addr) : Statement (Instr.eorAby w) := rfl
theorem eorAbx (w : Addr) : Statement (Instr.eorAbx w) := rfl
theorem bitZp (b : Byte) : Statement (Instr.bitZp b) := rfl
theorem bitAbs (w : Addr) : Statement (Instr.bitAbs w) := rfl
theorem cmpIzx (b : Byte) : Statement (Instr.cmpIzx b) := rfl
theorem cmpZp (b : Byte) : Statement (Instr.cmpZp b) := rfl
theorem cmpImm (b : Byte) : Statement (Instr.cmpImm b) := rfl
theorem cmpAbs (w : Addr) : Statement (Instr.cmpAbs w) := rfl
theorem cmpIzy (b : Byte) : Statement (Instr.cmpIzy b) := rfl
theorem cmpZpx (b : Byte) : Statement (Instr.cmpZpx b) := rfl
theorem cmpAby (w : Addr) : Statement (Instr.cmpAby w) := rfl
theorem cmpAbx (w : Addr) : Statement (Instr.cmpAbx w) := rfl
theorem cpxImm (b : Byte) : Statement (Instr.cpxImm b) := rfl
theorem cpxZp (b : Byte) : Statement (Instr.cpxZp b) := rfl
theorem cpxAbs (w : Addr) : Statement (Instr.cpxAbs w) := rfl
theorem cpyImm (b : Byte) : Statement (Instr.cpyImm b) := rfl
theorem cpyZp (b : Byte) : Statement (Instr.cpyZp b) := rfl
theorem cpyAbs (w : Addr) : Statement (Instr.cpyAbs w) := rfl
theorem incZp (b : Byte) : Statement (Instr.incZp b) := rfl
theorem incAbs (w : Addr) : Statement (Instr.incAbs w) := rfl
theorem incZpx (b : Byte) : Statement (Instr.incZpx b) := rfl
theorem incAbx (w : Addr) : Statement (Instr.incAbx w) := rfl
theorem decZp (b : Byte) : Statement (Instr.decZp b) := rfl
theorem decAbs (w : Addr) : Statement (Instr.decAbs w) := rfl
theorem decZpx (b : Byte) : Statement (Instr.decZpx b) := rfl
theorem decAbx (w : Addr) : Statement (Instr.decAbx w) := rfl
theorem inx : Statement Instr.inx := rfl
theorem iny : Statement Instr.iny := rfl
theorem dex : Statement Instr.dex := rfl
theorem dey : Statement Instr.dey := rfl
theorem aslZp (b : Byte) : Statement (Instr.aslZp b) := rfl
theorem aslAcc : Statement Instr.aslAcc := rfl
theorem aslAbs (w : Addr) : Statement (Instr.aslAbs w) := rfl
theorem aslZpx (b : Byte) : Statement (Instr.aslZpx b) := rfl
theorem aslAbx (w : Addr) : Statement (Instr.aslAbx w) := rfl
theorem lsrZp (b : Byte) : Statement (Instr.lsrZp b) := rfl
theorem lsrAcc : Statement Instr.lsrAcc := rfl
theorem lsrAbs (w : Addr) : Statement (Instr.lsrAbs w) := rfl
theorem lsrZpx (b : Byte) : Statement (Instr.lsrZpx b) := rfl
theorem lsrAbx (w : Addr) : Statement (Instr.lsrAbx w) := rfl
theorem rolZp (b : Byte) : Statement (Instr.rolZp b) := rfl
theorem rolAcc : Statement Instr.rolAcc := rfl
theorem rolAbs (w : Addr) : Statement (Instr.rolAbs w) := rfl
theorem rolZpx (b : Byte) : Statement (Instr.rolZpx b) := rfl
theorem rolAbx (w : Addr) : Statement (Instr.rolAbx w) := rfl
theorem rorZp (b : Byte) : Statement (Instr.rorZp b) := rfl
theorem rorAcc : Statement Instr.rorAcc := rfl
theorem rorAbs (w : Addr) : Statement (Instr.rorAbs w) := rfl
theorem rorZpx (b : Byte) : Statement (Instr.rorZpx b) := rfl
theorem rorAbx (w : Addr) : Statement (Instr.rorAbx w) := rfl
theorem bpl (b : Byte) : Statement (Instr.bpl b) := rfl
theorem bmi (b : Byte) : Statement (Instr.bmi b) := rfl
theorem bvc (b : Byte) : Statement (Instr.bvc b) := rfl
theorem bvs (b : Byte) : Statement (Instr.bvs b) := rfl
theorem bcc (b : Byte) : Statement (Instr.bcc b) := rfl
theorem bcs (b : Byte) : Statement (Instr.bcs b) := rfl
theorem bne (b : Byte) : Statement (Instr.bne b) := rfl
theorem beq (b : Byte) : Statement (Instr.beq b) := rfl
theorem jmpAbs (w : Addr) : Statement (Instr.jmpAbs w) := rfl
theorem jmpInd (w : Addr) : Statement (Instr.jmpInd w) := rfl
theorem jsrAbs (w : Addr) : Statement (Instr.jsrAbs w) := rfl
theorem rts : Statement Instr.rts := rfl
theorem rti : Statement Instr.rti := rfl
theorem brk : Statement Instr.brk := rfl
theorem clc : Statement Instr.clc := rfl
theorem sec : Statement Instr.sec := rfl
theorem cli : Statement Instr.cli := rfl
theorem sei : Statement Instr.sei := rfl
theorem cld : Statement Instr.cld := rfl
theorem sed : Statement Instr.sed := rfl
theorem clv : Statement Instr.clv := rfl
theorem nop : Statement Instr.nop := rfl
theorem nop04 (b : Byte) : Statement (Instr.nop04 b) := rfl
theorem nop0C (w : Addr) : Statement (Instr.nop0C w) := rfl
theorem nop14 (b : Byte) : Statement (Instr.nop14 b) := rfl
theorem nop1A : Statement Instr.nop1A := rfl
theorem nop1C (w : Addr) : Statement (Instr.nop1C w) := rfl
theorem nop34 (b : Byte) : Statement (Instr.nop34 b) := rfl
theorem nop3A : Statement Instr.nop3A := rfl
theorem nop3C (w : Addr) : Statement (Instr.nop3C w) := rfl
theorem nop44 (b : Byte) : Statement (Instr.nop44 b) := rfl
theorem nop54 (b : Byte) : Statement (Instr.nop54 b) := rfl
theorem nop5A : Statement Instr.nop5A := rfl
theorem nop5C (w : Addr) : Statement (Instr.nop5C w) := rfl
theorem nop64 (b : Byte) : Statement (Instr.nop64 b) := rfl
theorem nop74 (b : Byte) : Statement (Instr.nop74 b) := rfl
theorem nop7A : Statement Instr.nop7A := rfl
theorem nop7C (w : Addr) : Statement (Instr.nop7C w) := rfl
theorem nop80 (b : Byte) : Statement (Instr.nop80 b) := rfl
theorem nop82 (b : Byte) : Statement (Instr.nop82 b) := rfl
theorem nop89 (b : Byte) : Statement (Instr.nop89 b) := rfl
theorem nopC2 (b : Byte) : Statement (Instr.nopC2 b) := rfl
theorem nopD4 (b : Byte) : Statement (Instr.nopD4 b) := rfl
theorem nopDA : Statement Instr.nopDA := rfl
theorem nopDC (w : Addr) : Statement (Instr.nopDC w) := rfl
theorem nopE2 (b : Byte) : Statement (Instr.nopE2 b) := rfl
theorem nopF4 (b : Byte) : Statement (Instr.nopF4 b) := rfl
theorem nopFA : Statement Instr.nopFA := rfl
theorem nopFC (w : Addr) : Statement (Instr.nopFC w) := rfl
theorem laxIzx (b : Byte) : Statement (Instr.laxIzx b) := rfl
theorem laxZp (b : Byte) : Statement (Instr.laxZp b) := rfl
theorem laxAbs (w : Addr) : Statement (Instr.laxAbs w) := rfl
theorem laxIzy (b : Byte) : Statement (Instr.laxIzy b) := rfl
theorem laxZpy (b : Byte) : Statement (Instr.laxZpy b) := rfl
theorem laxAby (w : Addr) : Statement (Instr.laxAby w) := rfl
theorem saxIzx (b : Byte) : Statement (Instr.saxIzx b) := rfl
theorem saxZp (b : Byte) : Statement (Instr.saxZp b) := rfl
theorem saxAbs (w : Addr) : Statement (Instr.saxAbs w) := rfl
theorem saxZpy (b : Byte) : Statement (Instr.saxZpy b) := rfl
theorem sbcImmEB (b : Byte) : Statement (Instr.sbcImmEB b) := rfl
theorem dcpIzx (b : Byte) : Statement (Instr.dcpIzx b) := rfl
theorem dcpZp (b : Byte) : Statement (Instr.dcpZp b) := rfl
theorem dcpAbs (w : Addr) : Statement (Instr.dcpAbs w) := rfl
theorem dcpIzy (b : Byte) : Statement (Instr.dcpIzy b) := rfl
theorem dcpZpx (b : Byte) : Statement (Instr.dcpZpx b) := rfl
theorem dcpAby (w : Addr) : Statement (Instr.dcpAby w) := rfl
theorem dcpAbx (w : Addr) : Statement (Instr.dcpAbx w) := rfl
theorem isbIzx (b : Byte) : Statement (Instr.isbIzx b) := rfl
theorem isbZp (b : Byte) : Statement (Instr.isbZp b) := rfl
theorem isbAbs (w : Addr) : Statement (Instr.isbAbs w) := rfl
theorem isbIzy (b : Byte) : Statement (Instr.isbIzy b) := rfl
theorem isbZpx (b : Byte) : Statement (Instr.isbZpx b) := rfl
theorem isbAby (w : Addr) : Statement (Instr.isbAby w) := rfl
theorem isbAbx (w : Addr) : Statement (Instr.isbAbx w) := rfl
theorem sloIzx (b : Byte) : Statement (Instr.sloIzx b) := rfl
theorem sloZp (b : Byte) : Statement (Instr.sloZp b) := rfl
theorem sloAbs (w : Addr) : Statement (Instr.sloAbs w) := rfl
theorem sloIzy (b : Byte) : Statement (Instr.sloIzy b) := rfl
theorem sloZpx (b : Byte) : Statement (Instr.sloZpx b) := rfl
theorem sloAby (w : Addr) : Statement (Instr.sloAby w) := rfl
theorem sloAbx (w : Addr) : Statement (Instr.sloAbx w) := rfl
theorem rlaIzx (b : Byte) : Statement (Instr.rlaIzx b) := rfl
theorem rlaZp (b : Byte) : Statement (Instr.rlaZp b) := rfl
theorem rlaAbs (w : Addr) : Statement (Instr.rlaAbs w) := rfl
theorem rlaIzy (b : Byte) : Statement (Instr.rlaIzy b) := rfl
theorem rlaZpx (b : Byte) : Statement (Instr.rlaZpx b) := rfl
theorem rlaAby (w : Addr) : Statement (Instr.rlaAby w) := rfl
theorem rlaAbx (w : Addr) : Statement (Instr.rlaAbx w) := rfl
theorem sreIzx (b : Byte) : Statement (Instr.sreIzx b) := rfl
theorem sreZp (b : Byte) : Statement (Instr.sreZp b) := rfl
theorem sreAbs (w : Addr) : Statement (Instr.sreAbs w) := rfl
theorem sreIzy (b : Byte) : Statement (Instr.sreIzy b) := rfl
theorem sreZpx (b : Byte) : Statement (Instr.sreZpx b) := rfl
theorem sreAby (w : Addr) : Statement (Instr.sreAby w) := rfl
theorem sreAbx (w : Addr) : Statement (Instr.sreAbx w) := rfl
theorem rraIzx (b : Byte) : Statement (Instr.rraIzx b) := rfl
theorem rraZp (b : Byte) : Statement (Instr.rraZp b) := rfl
theorem rraAbs (w : Addr) : Statement (Instr.rraAbs w) := rfl
theorem rraIzy (b : Byte) : Statement (Instr.rraIzy b) := rfl
theorem rraZpx (b : Byte) : Statement (Instr.rraZpx b) := rfl
theorem rraAby (w : Addr) : Statement (Instr.rraAby w) := rfl
theorem rraAbx (w : Addr) : Statement (Instr.rraAbx w) := rfl
theorem anc0B (b : Byte) : Statement (Instr.anc0B b) := rfl
theorem anc2B (b : Byte) : Statement (Instr.anc2B b) := rfl
theorem alrImm (b : Byte) : Statement (Instr.alrImm b) := rfl
theorem arrImm (b : Byte) : Statement (Instr.arrImm b) := rfl
theorem aneImm (b : Byte) : Statement (Instr.aneImm b) := rfl
theorem lxaImm (b : Byte) : Statement (Instr.lxaImm b) := rfl
theorem sbxImm (b : Byte) : Statement (Instr.sbxImm b) := rfl
theorem shaIzy (b : Byte) : Statement (Instr.shaIzy b) := rfl
theorem shaAby (w : Addr) : Statement (Instr.shaAby w) := rfl
theorem shyAbx (w : Addr) : Statement (Instr.shyAbx w) := rfl
theorem shxAby (w : Addr) : Statement (Instr.shxAby w) := rfl
theorem tasAby (w : Addr) : Statement (Instr.tasAby w) := rfl
theorem lasAby (w : Addr) : Statement (Instr.lasAby w) := rfl
theorem jam02 : Statement Instr.jam02 := rfl
theorem jam12 : Statement Instr.jam12 := rfl
theorem jam22 : Statement Instr.jam22 := rfl
theorem jam32 : Statement Instr.jam32 := rfl
theorem jam42 : Statement Instr.jam42 := rfl
theorem jam52 : Statement Instr.jam52 := rfl
theorem jam62 : Statement Instr.jam62 := rfl
theorem jam72 : Statement Instr.jam72 := rfl
theorem jam92 : Statement Instr.jam92 := rfl
theorem jamB2 : Statement Instr.jamB2 := rfl
theorem jamD2 : Statement Instr.jamD2 := rfl
theorem jamF2 : Statement Instr.jamF2 := rfl

end Sys2Proof.Laws.OpcodeLength
end

