-- ==== Sys2Proof/Laws/Render.lean ====
section
/-! SUPPORT. The tick in parts: what each part does as one update of the state, what the render state machine leaves alone, and how the render position moves. -/

namespace Sys2Proof.Machine

/-- An operation that changes the PPU's items and nothing else. -/
def PpuOnly (f : State → State) : Prop := ∀ s, f s = { s with ppu := (f s).ppu }

/-- The PPU items that the CPU's register writes and the position advance own, not the render state machine. -/
structure SameRegs (p q : Ppu) : Prop where
  cycle : p.cycle = q.cycle
  scanline : p.scanline = q.scanline
  frame : p.frame = q.frame
  odd : p.odd = q.odd
  t : p.t = q.t
  x : p.x = q.x
  w : p.w = q.w
  ctrl : p.ctrl = q.ctrl
  mask : p.mask = q.mask
  oamAddr : p.oamAddr = q.oamAddr
  latch : p.latch = q.latch
  readBuffer : p.readBuffer = q.readBuffer

/-- The PPU items of the vertical blank and the NMI condition. -/
structure SameVblank (p q : Ppu) : Prop where
  vblank : p.vblank = q.vblank
  nmiPrevious : p.nmiPrevious = q.nmiPrevious
  nmiDelay : p.nmiDelay = q.nmiDelay
  front : p.front = q.front

/-- An operation of the render state machine: PPU items only, and none of the two groups above. -/
structure Renders (f : State → State) : Prop where
  only : PpuOnly f
  regs : ∀ s, SameRegs (f s).ppu s.ppu
  blank : ∀ s, SameVblank (f s).ppu s.ppu

theorem SameRegs.refl (p : Ppu) : SameRegs p p := ⟨rfl, rfl, rfl, rfl, rfl, rfl, rfl, rfl, rfl, rfl, rfl, rfl⟩

theorem SameRegs.trans {p q r : Ppu} (h : SameRegs p q) (k : SameRegs q r) : SameRegs p r :=
  ⟨h.1.trans k.1, h.2.trans k.2, h.3.trans k.3, h.4.trans k.4, h.5.trans k.5, h.6.trans k.6, h.7.trans k.7,
    h.8.trans k.8, h.9.trans k.9, h.10.trans k.10, h.11.trans k.11, h.12.trans k.12⟩

theorem SameVblank.refl (p : Ppu) : SameVblank p p := ⟨rfl, rfl, rfl, rfl⟩

theorem SameVblank.trans {p q r : Ppu} (h : SameVblank p q) (k : SameVblank q r) : SameVblank p r :=
  ⟨h.1.trans k.1, h.2.trans k.2, h.3.trans k.3, h.4.trans k.4⟩

theorem PpuOnly.comp {f g : State → State} (hf : PpuOnly f) (hg : PpuOnly g) : PpuOnly fun s => g (f s) := fun s => by
  show g (f s) = { s with ppu := (g (f s)).ppu }
  rw [hg (f s), hf s]

theorem PpuOnly.onlyIf {f : State → State} (b : Bool) (hf : PpuOnly f) : PpuOnly (onlyIf b f) := fun s => by
  cases b
  · rfl
  · exact hf s

theorem Renders.comp {f g : State → State} (hf : Renders f) (hg : Renders g) : Renders fun s => g (f s) :=
  ⟨hf.only.comp hg.only, fun s => (hg.regs _).trans (hf.regs s), fun s => (hg.blank _).trans (hf.blank s)⟩

theorem Renders.onlyIf {f : State → State} (b : Bool) (hf : Renders f) : Renders (onlyIf b f) := by
  refine ⟨hf.only.onlyIf b, fun s => ?_, fun s => ?_⟩
  · cases b
    · exact SameRegs.refl _
    · exact hf.regs s
  · cases b
    · exact SameVblank.refl _
    · exact hf.blank s

theorem renders_renderPixel : Renders renderPixel :=
  ⟨fun _ => rfl, fun _ => ⟨rfl, rfl, rfl, rfl, rfl, rfl, rfl, rfl, rfl, rfl, rfl, rfl⟩, fun _ => ⟨rfl, rfl, rfl, rfl⟩⟩

theorem renders_shiftTile : Renders shiftTile :=
  ⟨fun _ => rfl, fun _ => ⟨rfl, rfl, rfl, rfl, rfl, rfl, rfl, rfl, rfl, rfl, rfl, rfl⟩, fun _ => ⟨rfl, rfl, rfl, rfl⟩⟩

theorem renders_setV (f : Ppu → BitVec 15) : Renders (setV f) :=
  ⟨fun _ => rfl, fun _ => ⟨rfl, rfl, rfl, rfl, rfl, rfl, rfl, rfl, rfl, rfl, rfl, rfl⟩, fun _ => ⟨rfl, rfl, rfl, rfl⟩⟩

theorem renders_fetchStep : Renders fetchStep := by
  refine ⟨fun s => ?_, fun s => ?_, fun s => ?_⟩ <;> rw [fetchStep_eq] <;> split <;>
    first | rfl | exact ⟨rfl, rfl, rfl, rfl, rfl, rfl, rfl, rfl, rfl, rfl, rfl, rfl⟩ | exact ⟨rfl, rfl, rfl, rfl⟩

/-- One round of sprite evaluation changes the slots only. -/
theorem evaluateOne_state (acc : Nat × State) (i : Nat) :
    (evaluateOne acc i).2 = { acc.2 with ppu := { acc.2.ppu with slots := (evaluateOne acc i).2.ppu.slots } } := by
  unfold evaluateOne
  simp only [fillSlot_eq]
  split_ifs <;> rfl

theorem evaluate_foldl_state (l : List Nat) (acc : Nat × State) :
    (l.foldl evaluateOne acc).2 =
      { acc.2 with ppu := { acc.2.ppu with slots := (l.foldl evaluateOne acc).2.ppu.slots } } := by
  induction l generalizing acc with
  | nil => rfl
  | cons i l ih => rw [List.foldl_cons, ih, evaluateOne_state]

/-- Sprite evaluation changes the slots, their number and the overflow flag only. -/
theorem evaluateSprites_state (s : State) :
    evaluateSprites s = { s with ppu := { s.ppu with
      spriteCount := (evaluateSprites s).ppu.spriteCount, overflow := (evaluateSprites s).ppu.overflow
      slots := (evaluateSprites s).ppu.slots } } := by
  unfold evaluateSprites
  simp only
  rw [evaluate_foldl_state]

theorem renders_evaluateSprites : Renders evaluateSprites := by
  have h : ∀ s, ∃ n o q, evaluateSprites s = { s with ppu := { s.ppu with spriteCount := n, overflow := o, slots := q } } :=
    fun s => ⟨_, _, _, evaluateSprites_state s⟩
  refine ⟨fun s => ?_, fun s => ?_, fun s => ?_⟩ <;> obtain ⟨n, o, q, e⟩ := h s <;> rw [e]
  · exact ⟨rfl, rfl, rfl, rfl, rfl, rfl, rfl, rfl, rfl, rfl, rfl, rfl⟩
  · exact ⟨rfl, rfl, rfl, rfl⟩

theorem renders_spriteStep (visible : Bool) : Renders (spriteStep visible) := by
  cases visible
  · exact ⟨fun _ => rfl, fun _ => ⟨rfl, rfl, rfl, rfl, rfl, rfl, rfl, rfl, rfl, rfl, rfl, rfl⟩,
      fun _ => ⟨rfl, rfl, rfl, rfl⟩⟩
  · exact renders_evaluateSprites

/-! What each part of a tick does, as one update of the state. -/

theorem onlyIf_renderPixel (b : Bool) (s : State) : onlyIf b renderPixel s = { s with ppu := { s.ppu with
    back := if b then (renderPixel s).ppu.back else s.ppu.back
    sprite0Hit := if b then (renderPixel s).ppu.sprite0Hit else s.ppu.sprite0Hit } } := by
  cases b <;> rfl

theorem onlyIf_setV (b : Bool) (f : Ppu → BitVec 15) (s : State) :
    onlyIf b (setV f) s = { s with ppu := { s.ppu with v := if b then f s.ppu else s.ppu.v } } := by
  cases b <;> rfl

theorem onlyIf_spriteStep (b visible : Bool) (s : State) : onlyIf b (spriteStep visible) s = { s with ppu := { s.ppu with
    slots := if b && visible then (evaluateSprites s).ppu.slots else s.ppu.slots
    spriteCount := if b then (if visible then (evaluateSprites s).ppu.spriteCount else 0) else s.ppu.spriteCount
    overflow := if b && visible then (evaluateSprites s).ppu.overflow else s.ppu.overflow } } := by
  cases b
  · rfl
  · cases visible
    · rfl
    · exact evaluateSprites_state s

/-- A fetch cycle shifts the tile data and does the fetch or the store of its place in the cadence. -/
theorem onlyIf_fetch (b : Bool) (s : State) : onlyIf b (fun s => fetchStep (shiftTile s)) s =
    { s with ppu := { s.ppu with
      tileData := if b then (s.ppu.tileData <<< 4) ||| (if s.ppu.cycle % 8 = 0
        then (packTile s.ppu.atBits s.ppu.ptLow s.ppu.ptHigh).setWidth 64 else 0) else s.ppu.tileData
      ntByte := if b = true ∧ s.ppu.cycle % 8 = 1 then (fetchNametable s).ppu.ntByte else s.ppu.ntByte
      atBits := if b = true ∧ s.ppu.cycle % 8 = 3 then (fetchAttribute s).ppu.atBits else s.ppu.atBits
      ptLow := if b = true ∧ s.ppu.cycle % 8 = 5 then (fetchPatternLow s).ppu.ptLow else s.ppu.ptLow
      ptHigh := if b = true ∧ s.ppu.cycle % 8 = 7 then (fetchPatternHigh s).ppu.ptHigh else s.ppu.ptHigh } } := by
  cases b
  · simp [onlyIf]
  · simp only [onlyIf, if_true, fetchStep_eq]
    rw [show (shiftTile s).ppu.cycle = s.ppu.cycle from rfl]
    have h8 : s.ppu.cycle % 8 < 8 := Nat.mod_lt _ (by decide)
    generalize s.ppu.cycle % 8 = m at h8
    interval_cases m <;>
      simp [shiftTile, storeTile, fetchNametable, fetchAttribute, fetchPatternLow, fetchPatternHigh] <;> rfl

theorem onlyIf_setVblank (b : Bool) (s : State) : onlyIf b setVblank s = { s with ppu := { s.ppu with
    front := if b then s.ppu.back else s.ppu.front
    vblank := if b then true else s.ppu.vblank
    nmiPrevious := if b then s.ppu.ctrl.getLsbD 7 else s.ppu.nmiPrevious
    nmiDelay := if b = true ∧ s.ppu.ctrl.getLsbD 7 = true ∧ s.ppu.nmiPrevious = false then s.cfg.nmiDelayTicks
      else s.ppu.nmiDelay } } := by
  cases b
  · simp [onlyIf]
  · simp [onlyIf, setVblank, nmiChange]

theorem onlyIf_clearFlags (b : Bool) (s : State) : onlyIf b clearFlags s = { s with ppu := { s.ppu with
    vblank := if b then false else s.ppu.vblank
    sprite0Hit := if b then false else s.ppu.sprite0Hit
    overflow := if b then false else s.ppu.overflow
    nmiPrevious := if b then false else s.ppu.nmiPrevious } } := by
  cases b
  · simp [onlyIf]
  · simp [onlyIf, clearFlags, nmiChange]

/-- The NMI countdown in one update. -/
theorem countNmi_eq (s : State) : countNmi s = { s with
    nmiPending := s.nmiPending || (decide (s.ppu.nmiDelay = 1) && s.ppu.ctrl.getLsbD 7 && s.ppu.vblank)
    ppu := { s.ppu with nmiDelay := s.ppu.nmiDelay - 1 } } := by
  unfold countNmi
  split
  · next h =>
    have hp : ∀ p : Ppu, p.nmiDelay = 0 → { p with nmiDelay := p.nmiDelay - 1 } = p := by
      rintro ⟨⟩ hp
      simp_all
    rw [hp _ h]
    simp [h]
  · rfl

/-- Sprite evaluation does not read the loopy register. -/
theorem evaluateSprites_setV (v : BitVec 15) (s : State) :
    evaluateSprites { s with ppu := { s.ppu with v := v } } =
      { evaluateSprites s with ppu := { (evaluateSprites s).ppu with v := v } } := by
  have one : ∀ (n i : Nat) (s : State), evaluateOne (n, { s with ppu := { s.ppu with v := v } }) i =
      ((evaluateOne (n, s) i).1,
        { (evaluateOne (n, s) i).2 with ppu := { (evaluateOne (n, s) i).2.ppu with v := v } }) := by
    intro n i s
    simp only [evaluateOne, fillSlot_eq]
    rw [show covers (Memory.read s.oam (4 * i)) { s with ppu := { s.ppu with v := v } } =
      covers (Memory.read s.oam (4 * i)) s from rfl]
    by_cases h1 : covers (Memory.read s.oam (4 * i)) s = true
    · by_cases h2 : n < 8
      · simp only [h1, h2, if_true]; rfl
      · simp only [h1, h2, if_true, if_false]
    · simp only [h1]; rfl
  have all : ∀ (l : List Nat) (n : Nat) (s : State), l.foldl evaluateOne (n, { s with ppu := { s.ppu with v := v } }) =
      ((l.foldl evaluateOne (n, s)).1, { (l.foldl evaluateOne (n, s)).2 with
        ppu := { (l.foldl evaluateOne (n, s)).2.ppu with v := v } }) := by
    intro l
    induction l with
    | nil => intro n s; rfl
    | cons i l ih => intro n s; rw [List.foldl_cons, List.foldl_cons, one, ih]
  unfold evaluateSprites
  simp only [all]

/-- Everything a tick does with rendering enabled stays within the render state machine. -/
theorem renders_renderAt (c l : Nat) : Renders (renderAt c l) := by
  unfold renderAt
  exact ((((((renders_renderPixel.onlyIf _).comp ((renders_shiftTile.comp renders_fetchStep).onlyIf _)).comp
    ((renders_setV _).onlyIf _)).comp ((renders_setV _).onlyIf _)).comp ((renders_setV _).onlyIf _)).comp
    ((renders_setV _).onlyIf _)).comp ((renders_spriteStep _).onlyIf _)

theorem ppuOnly_actAtPosition : PpuOnly actAtPosition := fun s => by
  have hv : PpuOnly setVblank := fun _ => rfl
  have hc : PpuOnly clearFlags := fun _ => rfl
  exact (((renders_renderAt s.ppu.cycle s.ppu.scanline).only.onlyIf (rendering s)).comp
    (hv.onlyIf (decide (s.ppu.scanline = 241) && decide (s.ppu.cycle = 1)))).comp
    (hc.onlyIf (decide (s.ppu.scanline = 261) && decide (s.ppu.cycle = 1))) s

/-- Acting at a position does not move it, and writes none of the CPU-visible registers. -/
theorem actAtPosition_regs (s : State) : SameRegs (actAtPosition s).ppu s.ppu := by
  have hv : ∀ t, SameRegs (setVblank t).ppu t.ppu := fun _ => ⟨rfl, rfl, rfl, rfl, rfl, rfl, rfl, rfl, rfl, rfl, rfl, rfl⟩
  have hc : ∀ t, SameRegs (clearFlags t).ppu t.ppu := fun _ => ⟨rfl, rfl, rfl, rfl, rfl, rfl, rfl, rfl, rfl, rfl, rfl, rfl⟩
  have hif : ∀ (b : Bool) (f : State → State), (∀ t, SameRegs (f t).ppu t.ppu) → ∀ t, SameRegs (onlyIf b f t).ppu t.ppu := by
    intro b f hf t
    cases b
    · exact SameRegs.refl _
    · exact hf t
  unfold actAtPosition
  exact (hif _ _ hc _).trans ((hif _ _ hv _).trans (((renders_renderAt _ _).onlyIf _).regs s))

/-- The NMI countdown changes the countdown and the CPU's NMI latch only. -/
theorem countNmi_state (s : State) :
    countNmi s = { s with nmiPending := (countNmi s).nmiPending, ppu := { s.ppu with nmiDelay := (countNmi s).ppu.nmiDelay } } := by
  unfold countNmi; split <;> rfl

theorem advancePosition_state (s : State) :
    advancePosition s = { s with ppu := { s.ppu with
      cycle := (advancePosition s).ppu.cycle, scanline := (advancePosition s).ppu.scanline
      frame := (advancePosition s).ppu.frame, odd := (advancePosition s).ppu.odd } } := by
  unfold advancePosition; split_ifs <;> rfl

/-- A tick changes the PPU's items and the CPU's NMI latch only. -/
theorem tick_state (s : State) : tick s = { s with nmiPending := (tick s).nmiPending, ppu := (tick s).ppu } := by
  unfold tick
  simp only
  split
  · unfold skipToNextFrame; rw [countNmi_state]
  · rw [ppuOnly_actAtPosition (advancePosition (countNmi s)), advancePosition_state, countNmi_state]

/-- Any number of ticks changes the PPU's items and the CPU's NMI latch only. -/
theorem ticks_state (n : Nat) (s : State) : ticks n s = { s with nmiPending := (ticks n s).nmiPending, ppu := (ticks n s).ppu } := by
  induction n generalizing s with
  | zero => rfl
  | succ n ih => rw [ticks, ih, tick_state]

theorem ticks_add (m n : Nat) (s : State) : ticks (m + n) s = ticks n (ticks m s) := by
  induction m generalizing s with
  | zero => rw [Nat.zero_add]; rfl
  | succ m ih => rw [Nat.succ_add, ticks, ticks, ih]

@[simp] theorem tick_a (s : State) : (tick s).a = s.a := by rw [tick_state]
@[simp] theorem ticks_a (n : Nat) (s : State) : (ticks n s).a = s.a := by rw [ticks_state]
@[simp] theorem tick_x (s : State) : (tick s).x = s.x := by rw [tick_state]
@[simp] theorem ticks_x (n : Nat) (s : State) : (ticks n s).x = s.x := by rw [ticks_state]
@[simp] theorem tick_y (s : State) : (tick s).y = s.y := by rw [tick_state]
@[simp] theorem ticks_y (n : Nat) (s : State) : (ticks n s).y = s.y := by rw [ticks_state]
@[simp] theorem tick_sp (s : State) : (tick s).sp = s.sp := by rw [tick_state]
@[simp] theorem ticks_sp (n : Nat) (s : State) : (ticks n s).sp = s.sp := by rw [ticks_state]
@[simp] theorem tick_pc (s : State) : (tick s).pc = s.pc := by rw [tick_state]
@[simp] theorem ticks_pc (n : Nat) (s : State) : (ticks n s).pc = s.pc := by rw [ticks_state]
@[simp] theorem tick_p (s : State) : (tick s).p = s.p := by rw [tick_state]
@[simp] theorem ticks_p (n : Nat) (s : State) : (ticks n s).p = s.p := by rw [ticks_state]
@[simp] theorem tick_cycles (s : State) : (tick s).cycles = s.cycles := by rw [tick_state]
@[simp] theorem ticks_cycles (n : Nat) (s : State) : (ticks n s).cycles = s.cycles := by rw [ticks_state]
@[simp] theorem tick_stall (s : State) : (tick s).stall = s.stall := by rw [tick_state]
@[simp] theorem ticks_stall (n : Nat) (s : State) : (ticks n s).stall = s.stall := by rw [ticks_state]
@[simp] theorem tick_irq (s : State) : (tick s).irq = s.irq := by rw [tick_state]
@[simp] theorem ticks_irq (n : Nat) (s : State) : (ticks n s).irq = s.irq := by rw [ticks_state]
@[simp] theorem tick_fault (s : State) : (tick s).fault = s.fault := by rw [tick_state]
@[simp] theorem ticks_fault (n : Nat) (s : State) : (ticks n s).fault = s.fault := by rw [ticks_state]
@[simp] theorem tick_ram (s : State) : (tick s).ram = s.ram := by rw [tick_state]
@[simp] theorem ticks_ram (n : Nat) (s : State) : (ticks n s).ram = s.ram := by rw [ticks_state]
@[simp] theorem tick_prgRam (s : State) : (tick s).prgRam = s.prgRam := by rw [tick_state]
@[simp] theorem ticks_prgRam (n : Nat) (s : State) : (ticks n s).prgRam = s.prgRam := by rw [ticks_state]
@[simp] theorem tick_prgRom (s : State) : (tick s).prgRom = s.prgRom := by rw [tick_state]
@[simp] theorem ticks_prgRom (n : Nat) (s : State) : (ticks n s).prgRom = s.prgRom := by rw [ticks_state]
@[simp] theorem tick_chr (s : State) : (tick s).chr = s.chr := by rw [tick_state]
@[simp] theorem ticks_chr (n : Nat) (s : State) : (ticks n s).chr = s.chr := by rw [ticks_state]
@[simp] theorem tick_oam (s : State) : (tick s).oam = s.oam := by rw [tick_state]
@[simp] theorem ticks_oam (n : Nat) (s : State) : (ticks n s).oam = s.oam := by rw [ticks_state]
@[simp] theorem tick_palette (s : State) : (tick s).palette = s.palette := by rw [tick_state]
@[simp] theorem ticks_palette (n : Nat) (s : State) : (ticks n s).palette = s.palette := by rw [ticks_state]
@[simp] theorem tick_vram (s : State) : (tick s).vram = s.vram := by rw [tick_state]
@[simp] theorem ticks_vram (n : Nat) (s : State) : (ticks n s).vram = s.vram := by rw [ticks_state]
@[simp] theorem tick_map (s : State) : (tick s).map = s.map := by rw [tick_state]
@[simp] theorem ticks_map (n : Nat) (s : State) : (ticks n s).map = s.map := by rw [ticks_state]
@[simp] theorem tick_mirror (s : State) : (tick s).mirror = s.mirror := by rw [tick_state]
@[simp] theorem ticks_mirror (n : Nat) (s : State) : (ticks n s).mirror = s.mirror := by rw [ticks_state]
@[simp] theorem tick_cart (s : State) : (tick s).cart = s.cart := by rw [tick_state]
@[simp] theorem ticks_cart (n : Nat) (s : State) : (ticks n s).cart = s.cart := by rw [ticks_state]
@[simp] theorem tick_pads (s : State) : (tick s).pads = s.pads := by rw [tick_state]
@[simp] theorem ticks_pads (n : Nat) (s : State) : (ticks n s).pads = s.pads := by rw [ticks_state]
@[simp] theorem tick_cfg (s : State) : (tick s).cfg = s.cfg := by rw [tick_state]
@[simp] theorem ticks_cfg (n : Nat) (s : State) : (ticks n s).cfg = s.cfg := by rw [ticks_state]

end Sys2Proof.Machine
end

