-- ==== Sys2Proof/Laws/Run.lean ====
section
/-! SUPPORT. Running until the end condition is running to the first boundary that meets it. -/

namespace Sys2Proof.Machine

/-- What `runUntil` answers: some steps on, the end condition holds, and it held at no boundary before. -/
theorem runUntil_spec (e : RunEnd) (fuel k k' : Nat) (s t : State) (h : runUntil e fuel k s = some (k', t)) :
    ∃ n, k' = k + n ∧ Sys2Proof.core.run n s = .next t ∧ endMet e k' t = true ∧
      ∀ j, j < n → ∀ u, Sys2Proof.core.run j s = .next u → endMet e (k + j) u = false := by
  induction fuel generalizing k s with
  | zero =>
    unfold runUntil at h
    split at h
    · next he =>
      obtain ⟨rfl, rfl⟩ := Prod.mk.inj (Option.some.inj h)
      exact ⟨0, rfl, rfl, he, fun j hj => absurd hj (Nat.not_lt_zero j)⟩
    · exact absurd h (by simp)
  | succ fuel ih =>
    unfold runUntil at h
    split at h
    · next he =>
      obtain ⟨rfl, rfl⟩ := Prod.mk.inj (Option.some.inj h)
      exact ⟨0, rfl, rfl, he, fun j hj => absurd hj (Nat.not_lt_zero j)⟩
    · next he =>
      split at h
      · next u hu =>
        obtain ⟨n, rfl, hrun, hend, hbefore⟩ := ih (k + 1) u h
        have hstep : ∀ m, Sys2Proof.core.run (m + 1) s = Sys2Proof.core.run m u := fun m => by
          simp only [Host.Core.run]
          rw [show Sys2Proof.core.step s = .next u from hu]
        refine ⟨n + 1, by omega, (hstep n).trans hrun, hend, fun j hj v hv => ?_⟩
        cases j with
        | zero =>
          cases hv
          simpa using he
        | succ j =>
          have := hbefore j (by omega) v ((hstep j).symm.trans hv)
          rwa [show k + (j + 1) = k + 1 + j by omega]
      · exact absurd h (by simp)
      · exact absurd h (by simp)

/-- A run that `runUntil` carries to its end ends there. -/
theorem endsAt_of_runUntil (e : RunEnd) (fuel k : Nat) (s t : State) (h : runUntil e fuel 0 s = some (k, t)) :
    EndsAt e s k t := by
  obtain ⟨n, hk, hrun, hend, hbefore⟩ := runUntil_spec e fuel 0 k s t h
  obtain rfl : k = n := by omega
  exact ⟨hrun, hend, fun j hj u hu => by simpa using hbefore j hj u hu⟩

end Sys2Proof.Machine
end

