-- ==== Sys2Proof/Tests/Slice0.lean ====
section
/-! SUPPORT. The model's own tests. The expected values are those of spec/95_test_vectors.md and of the opcode map of spec/30_encoding.md, each test one step or one access; the `test_witness` theorems show concrete values that meet the hypotheses of the obligation they are named after. -/

namespace Sys2Proof.Tests

open Sys2Proof.Machine

/-! Helpers. -/

/-- The instructions a list of words decodes to, none where a word is refused or has bytes left. -/
def decoded (words : List (List Byte)) : List (Option Instr) :=
  words.map fun w =>
    match decode w with
    | .ok (i, []) => some i
    | _ => none

/-- The words decode to the instructions, one each. -/
def readsAs (words : List (List Byte)) (is : List Instr) : Bool := decide (decoded words = is.map some)

/-- The base state of spec/95_test_vectors.md: the blank cartridge with the vectors D000, C000 and E000. -/
def base : State :=
  { State.reset with pc := 0xC000, prgRom := [(0x3FFB, 0xD0), (0x3FFD, 0xC0), (0x3FFF, 0xE0)] }

/-- The base state under `UNOFFICIAL_OPCODES = nestest`. -/
def nes : State := { base with cfg := { base.cfg with unofficial := .nestest } }

/-- The CPU's registers and work RAM, as a vector of spec/95_test_vectors.md lists them; the defaults are the base state's. -/
structure Cpu where
  a : Byte := 0x00
  x : Byte := 0x00
  y : Byte := 0x00
  p : Byte := 0x24
  sp : Byte := 0xFD
  pc : Addr := 0xC000
  ram : Mem := []
  deriving DecidableEq, Repr

/-- A state with these registers and this RAM, its code at the program counter. -/
def startFrom (s : State) (bytes : List Byte) (c : Cpu) : State :=
  { s with
    a := c.a, x := c.x, y := c.y, p := Flags.ofByte c.p, sp := c.sp, pc := c.pc, ram := c.ram
    prgRom := Memory.ofBytes (c.pc.toNat - 0xC000) bytes ++ s.prgRom }

/-- The registers and the RAM of a state. -/
def cpuOf (s : State) : Cpu := ⟨s.a, s.x, s.y, s.p.toByte, s.sp, s.pc, s.ram⟩

/-- One step from a state answers a next state with these registers and this RAM, after `n` cycles. -/
def stepsTo (s : State) (c : Cpu) (n : Nat) : Bool :=
  match step s with
  | .next t => decide (cpuOf t = c) && decide ((t.cycles - s.cycles).toNat = n)
  | _ => false

/-- One step over the given code, under the default parameters. -/
def runs (bytes : List Byte) (c d : Cpu) (n : Nat) : Bool := stepsTo (startFrom base bytes c) d n

/-- One step over the given code, under `nestest`. -/
def runsNes (bytes : List Byte) (c d : Cpu) (n : Nat) : Bool := stepsTo (startFrom nes bytes c) d n

/-- The state a step faults in, if it does. -/
def leftBy (o : Outcome) : Option State :=
  match o with
  | .fault (.illegalOpcode _ _ left) => some left
  | .fault (.unmappedAddress _ _ left) => some left
  | _ => none

/-- One step from a state faults with this record, the left state holding this PC and cycle count and the PPU where it was. -/
def stops (s : State) (r : FaultRecord) (pc : Addr) (cycles : Nat) : Bool :=
  match leftBy (step s) with
  | some left => decide (left.fault = some r) && decide (left.pc = pc) && decide (left.cycles.toNat = cycles) &&
      decide (left.ppu = s.ppu)
  | none => false

/-- The state after a step, the state itself where there is none. -/
def after (s : State) : State :=
  match step s with
  | .next t => t
  | _ => s

/-- A step answers a next state. -/
def goesOn (o : Outcome) : Bool :=
  match o with
  | .next _ => true
  | _ => false

/-- A CPU read: the value and the state after it. -/
def rd (a : Addr) (s : State) : Byte × State :=
  match busRead a s with
  | .ok v t => (v, t)
  | .fault _ => (0, s)

/-- The state after a CPU read. -/
def seen (a : Addr) (s : State) : State := (rd a s).2

/-- The state after a CPU write. -/
def wr (a : Addr) (v : Byte) (s : State) : State :=
  match busWrite a v s with
  | .ok _ t => t
  | .fault _ => s

/-- A CPU access completes. -/
def answers {α : Type} (r : Res α) : Bool :=
  match r with
  | .ok _ _ => true
  | .fault _ => false

/-- An access answers this value and this state. -/
def gives {α : Type} [DecidableEq α] (r : Res α) (v : α) (s : State) : Bool :=
  match r with
  | .ok w t => decide (w = v) && decide (t = s)
  | .fault _ => false

theorem eq_of_gives {α : Type} [DecidableEq α] {r : Res α} {v : α} {s : State} (h : gives r v s = true) : r = .ok v s := by
  cases r with
  | ok w t =>
    simp only [gives, Bool.and_eq_true, decide_eq_true_eq] at h
    rw [h.1, h.2]
  | fault e => simp [gives] at h

/-- A state with its PPU changed. -/
def withPpu (f : Ppu → Ppu) (s : State) : State := { s with ppu := f s.ppu }

/-- A state with the PPU at a scanline and a cycle. -/
def at_ (l c : Nat) (s : State) : State := { s with ppu := { s.ppu with scanline := l, cycle := c } }

/-! Well-formedness: one ill-formed term for each way the check refuses (R161, R370, R381). -/

theorem test_wellformed_refuses_jam : WellFormed .nestest .jam02 = false ∧ WellFormed .fault .jam02 = false := by decide

theorem test_wellformed_refuses_unofficial : WellFormed .fault (.laxZp 0x10) = false := by decide

theorem test_wellformed_accepts : WellFormed .fault (.ldaZp 0x10) = true ∧ WellFormed .nestest (.laxZp 0x10) = true := by
  decide

/-! Decoding. -/

/-- Row 0x of the opcode map (spec/30_encoding.md R156), each word with the operand bytes 9C and 03. -/
theorem test_decode_row_0 : readsAs
    [
      [0x00], [0x01, 0x9C], [0x02], [0x03, 0x9C], [0x04, 0x9C], [0x05, 0x9C], [0x06, 0x9C], [0x07, 0x9C],
      [0x08], [0x09, 0x9C], [0x0A], [0x0B, 0x9C], [0x0C, 0x9C, 0x03], [0x0D, 0x9C, 0x03], [0x0E, 0x9C, 0x03],
      [0x0F, 0x9C, 0x03] ]
    [
      .brk, .oraIzx 0x9C, .jam02, .sloIzx 0x9C, .nop04 0x9C, .oraZp 0x9C, .aslZp 0x9C, .sloZp 0x9C, .php,
      .oraImm 0x9C, .aslAcc, .anc0B 0x9C, .nop0C 0x039C, .oraAbs 0x039C, .aslAbs 0x039C, .sloAbs 0x039C ] := by
  decide

/-- Row 1x of the opcode map (spec/30_encoding.md R156), each word with the operand bytes 9C and 03. -/
theorem test_decode_row_1 : readsAs
    [
      [0x10, 0x9C], [0x11, 0x9C], [0x12], [0x13, 0x9C], [0x14, 0x9C], [0x15, 0x9C], [0x16, 0x9C], [0x17, 0x9C],
      [0x18], [0x19, 0x9C, 0x03], [0x1A], [0x1B, 0x9C, 0x03], [0x1C, 0x9C, 0x03], [0x1D, 0x9C, 0x03],
      [0x1E, 0x9C, 0x03], [0x1F, 0x9C, 0x03] ]
    [
      .bpl 0x9C, .oraIzy 0x9C, .jam12, .sloIzy 0x9C, .nop14 0x9C, .oraZpx 0x9C, .aslZpx 0x9C, .sloZpx 0x9C,
      .clc, .oraAby 0x039C, .nop1A, .sloAby 0x039C, .nop1C 0x039C, .oraAbx 0x039C, .aslAbx 0x039C,
      .sloAbx 0x039C ] := by
  decide

/-- Row 2x of the opcode map (spec/30_encoding.md R156), each word with the operand bytes 9C and 03. -/
theorem test_decode_row_2 : readsAs
    [
      [0x20, 0x9C, 0x03], [0x21, 0x9C], [0x22], [0x23, 0x9C], [0x24, 0x9C], [0x25, 0x9C], [0x26, 0x9C],
      [0x27, 0x9C], [0x28], [0x29, 0x9C], [0x2A], [0x2B, 0x9C], [0x2C, 0x9C, 0x03], [0x2D, 0x9C, 0x03],
      [0x2E, 0x9C, 0x03], [0x2F, 0x9C, 0x03] ]
    [
      .jsrAbs 0x039C, .andIzx 0x9C, .jam22, .rlaIzx 0x9C, .bitZp 0x9C, .andZp 0x9C, .rolZp 0x9C, .rlaZp 0x9C,
      .plp, .andImm 0x9C, .rolAcc, .anc2B 0x9C, .bitAbs 0x039C, .andAbs 0x039C, .rolAbs 0x039C, .rlaAbs 0x039C ] := by
  decide

/-- Row 3x of the opcode map (spec/30_encoding.md R156), each word with the operand bytes 9C and 03. -/
theorem test_decode_row_3 : readsAs
    [
      [0x30, 0x9C], [0x31, 0x9C], [0x32], [0x33, 0x9C], [0x34, 0x9C], [0x35, 0x9C], [0x36, 0x9C], [0x37, 0x9C],
      [0x38], [0x39, 0x9C, 0x03], [0x3A], [0x3B, 0x9C, 0x03], [0x3C, 0x9C, 0x03], [0x3D, 0x9C, 0x03],
      [0x3E, 0x9C, 0x03], [0x3F, 0x9C, 0x03] ]
    [
      .bmi 0x9C, .andIzy 0x9C, .jam32, .rlaIzy 0x9C, .nop34 0x9C, .andZpx 0x9C, .rolZpx 0x9C, .rlaZpx 0x9C,
      .sec, .andAby 0x039C, .nop3A, .rlaAby 0x039C, .nop3C 0x039C, .andAbx 0x039C, .rolAbx 0x039C,
      .rlaAbx 0x039C ] := by
  decide

/-- Row 4x of the opcode map (spec/30_encoding.md R156), each word with the operand bytes 9C and 03. -/
theorem test_decode_row_4 : readsAs
    [
      [0x40], [0x41, 0x9C], [0x42], [0x43, 0x9C], [0x44, 0x9C], [0x45, 0x9C], [0x46, 0x9C], [0x47, 0x9C],
      [0x48], [0x49, 0x9C], [0x4A], [0x4B, 0x9C], [0x4C, 0x9C, 0x03], [0x4D, 0x9C, 0x03], [0x4E, 0x9C, 0x03],
      [0x4F, 0x9C, 0x03] ]
    [
      .rti, .eorIzx 0x9C, .jam42, .sreIzx 0x9C, .nop44 0x9C, .eorZp 0x9C, .lsrZp 0x9C, .sreZp 0x9C, .pha,
      .eorImm 0x9C, .lsrAcc, .alrImm 0x9C, .jmpAbs 0x039C, .eorAbs 0x039C, .lsrAbs 0x039C, .sreAbs 0x039C ] := by
  decide

/-- Row 5x of the opcode map (spec/30_encoding.md R156), each word with the operand bytes 9C and 03. -/
theorem test_decode_row_5 : readsAs
    [
      [0x50, 0x9C], [0x51, 0x9C], [0x52], [0x53, 0x9C], [0x54, 0x9C], [0x55, 0x9C], [0x56, 0x9C], [0x57, 0x9C],
      [0x58], [0x59, 0x9C, 0x03], [0x5A], [0x5B, 0x9C, 0x03], [0x5C, 0x9C, 0x03], [0x5D, 0x9C, 0x03],
      [0x5E, 0x9C, 0x03], [0x5F, 0x9C, 0x03] ]
    [
      .bvc 0x9C, .eorIzy 0x9C, .jam52, .sreIzy 0x9C, .nop54 0x9C, .eorZpx 0x9C, .lsrZpx 0x9C, .sreZpx 0x9C,
      .cli, .eorAby 0x039C, .nop5A, .sreAby 0x039C, .nop5C 0x039C, .eorAbx 0x039C, .lsrAbx 0x039C,
      .sreAbx 0x039C ] := by
  decide

/-- Row 6x of the opcode map (spec/30_encoding.md R156), each word with the operand bytes 9C and 03. -/
theorem test_decode_row_6 : readsAs
    [
      [0x60], [0x61, 0x9C], [0x62], [0x63, 0x9C], [0x64, 0x9C], [0x65, 0x9C], [0x66, 0x9C], [0x67, 0x9C],
      [0x68], [0x69, 0x9C], [0x6A], [0x6B, 0x9C], [0x6C, 0x9C, 0x03], [0x6D, 0x9C, 0x03], [0x6E, 0x9C, 0x03],
      [0x6F, 0x9C, 0x03] ]
    [
      .rts, .adcIzx 0x9C, .jam62, .rraIzx 0x9C, .nop64 0x9C, .adcZp 0x9C, .rorZp 0x9C, .rraZp 0x9C, .pla,
      .adcImm 0x9C, .rorAcc, .arrImm 0x9C, .jmpInd 0x039C, .adcAbs 0x039C, .rorAbs 0x039C, .rraAbs 0x039C ] := by
  decide

/-- Row 7x of the opcode map (spec/30_encoding.md R156), each word with the operand bytes 9C and 03. -/
theorem test_decode_row_7 : readsAs
    [
      [0x70, 0x9C], [0x71, 0x9C], [0x72], [0x73, 0x9C], [0x74, 0x9C], [0x75, 0x9C], [0x76, 0x9C], [0x77, 0x9C],
      [0x78], [0x79, 0x9C, 0x03], [0x7A], [0x7B, 0x9C, 0x03], [0x7C, 0x9C, 0x03], [0x7D, 0x9C, 0x03],
      [0x7E, 0x9C, 0x03], [0x7F, 0x9C, 0x03] ]
    [
      .bvs 0x9C, .adcIzy 0x9C, .jam72, .rraIzy 0x9C, .nop74 0x9C, .adcZpx 0x9C, .rorZpx 0x9C, .rraZpx 0x9C,
      .sei, .adcAby 0x039C, .nop7A, .rraAby 0x039C, .nop7C 0x039C, .adcAbx 0x039C, .rorAbx 0x039C,
      .rraAbx 0x039C ] := by
  decide

/-- Row 8x of the opcode map (spec/30_encoding.md R156), each word with the operand bytes 9C and 03. -/
theorem test_decode_row_8 : readsAs
    [
      [0x80, 0x9C], [0x81, 0x9C], [0x82, 0x9C], [0x83, 0x9C], [0x84, 0x9C], [0x85, 0x9C], [0x86, 0x9C],
      [0x87, 0x9C], [0x88], [0x89, 0x9C], [0x8A], [0x8B, 0x9C], [0x8C, 0x9C, 0x03], [0x8D, 0x9C, 0x03],
      [0x8E, 0x9C, 0x03], [0x8F, 0x9C, 0x03] ]
    [
      .nop80 0x9C, .staIzx 0x9C, .nop82 0x9C, .saxIzx 0x9C, .styZp 0x9C, .staZp 0x9C, .stxZp 0x9C, .saxZp 0x9C,
      .dey, .nop89 0x9C, .txa, .aneImm 0x9C, .styAbs 0x039C, .staAbs 0x039C, .stxAbs 0x039C, .saxAbs 0x039C ] := by
  decide

/-- Row 9x of the opcode map (spec/30_encoding.md R156), each word with the operand bytes 9C and 03. -/
theorem test_decode_row_9 : readsAs
    [
      [0x90, 0x9C], [0x91, 0x9C], [0x92], [0x93, 0x9C], [0x94, 0x9C], [0x95, 0x9C], [0x96, 0x9C], [0x97, 0x9C],
      [0x98], [0x99, 0x9C, 0x03], [0x9A], [0x9B, 0x9C, 0x03], [0x9C, 0x9C, 0x03], [0x9D, 0x9C, 0x03],
      [0x9E, 0x9C, 0x03], [0x9F, 0x9C, 0x03] ]
    [
      .bcc 0x9C, .staIzy 0x9C, .jam92, .shaIzy 0x9C, .styZpx 0x9C, .staZpx 0x9C, .stxZpy 0x9C, .saxZpy 0x9C,
      .tya, .staAby 0x039C, .txs, .tasAby 0x039C, .shyAbx 0x039C, .staAbx 0x039C, .shxAby 0x039C, .shaAby 0x039C ] := by
  decide

/-- Row Ax of the opcode map (spec/30_encoding.md R156), each word with the operand bytes 9C and 03. -/
theorem test_decode_row_A : readsAs
    [
      [0xA0, 0x9C], [0xA1, 0x9C], [0xA2, 0x9C], [0xA3, 0x9C], [0xA4, 0x9C], [0xA5, 0x9C], [0xA6, 0x9C],
      [0xA7, 0x9C], [0xA8], [0xA9, 0x9C], [0xAA], [0xAB, 0x9C], [0xAC, 0x9C, 0x03], [0xAD, 0x9C, 0x03],
      [0xAE, 0x9C, 0x03], [0xAF, 0x9C, 0x03] ]
    [
      .ldyImm 0x9C, .ldaIzx 0x9C, .ldxImm 0x9C, .laxIzx 0x9C, .ldyZp 0x9C, .ldaZp 0x9C, .ldxZp 0x9C,
      .laxZp 0x9C, .tay, .ldaImm 0x9C, .tax, .lxaImm 0x9C, .ldyAbs 0x039C, .ldaAbs 0x039C, .ldxAbs 0x039C,
      .laxAbs 0x039C ] := by
  decide

/-- Row Bx of the opcode map (spec/30_encoding.md R156), each word with the operand bytes 9C and 03. -/
theorem test_decode_row_B : readsAs
    [
      [0xB0, 0x9C], [0xB1, 0x9C], [0xB2], [0xB3, 0x9C], [0xB4, 0x9C], [0xB5, 0x9C], [0xB6, 0x9C], [0xB7, 0x9C],
      [0xB8], [0xB9, 0x9C, 0x03], [0xBA], [0xBB, 0x9C, 0x03], [0xBC, 0x9C, 0x03], [0xBD, 0x9C, 0x03],
      [0xBE, 0x9C, 0x03], [0xBF, 0x9C, 0x03] ]
    [
      .bcs 0x9C, .ldaIzy 0x9C, .jamB2, .laxIzy 0x9C, .ldyZpx 0x9C, .ldaZpx 0x9C, .ldxZpy 0x9C, .laxZpy 0x9C,
      .clv, .ldaAby 0x039C, .tsx, .lasAby 0x039C, .ldyAbx 0x039C, .ldaAbx 0x039C, .ldxAby 0x039C, .laxAby 0x039C ] := by
  decide

/-- Row Cx of the opcode map (spec/30_encoding.md R156), each word with the operand bytes 9C and 03. -/
theorem test_decode_row_C : readsAs
    [
      [0xC0, 0x9C], [0xC1, 0x9C], [0xC2, 0x9C], [0xC3, 0x9C], [0xC4, 0x9C], [0xC5, 0x9C], [0xC6, 0x9C],
      [0xC7, 0x9C], [0xC8], [0xC9, 0x9C], [0xCA], [0xCB, 0x9C], [0xCC, 0x9C, 0x03], [0xCD, 0x9C, 0x03],
      [0xCE, 0x9C, 0x03], [0xCF, 0x9C, 0x03] ]
    [
      .cpyImm 0x9C, .cmpIzx 0x9C, .nopC2 0x9C, .dcpIzx 0x9C, .cpyZp 0x9C, .cmpZp 0x9C, .decZp 0x9C,
      .dcpZp 0x9C, .iny, .cmpImm 0x9C, .dex, .sbxImm 0x9C, .cpyAbs 0x039C, .cmpAbs 0x039C, .decAbs 0x039C,
      .dcpAbs 0x039C ] := by
  decide

/-- Row Dx of the opcode map (spec/30_encoding.md R156), each word with the operand bytes 9C and 03. -/
theorem test_decode_row_D : readsAs
    [
      [0xD0, 0x9C], [0xD1, 0x9C], [0xD2], [0xD3, 0x9C], [0xD4, 0x9C], [0xD5, 0x9C], [0xD6, 0x9C], [0xD7, 0x9C],
      [0xD8], [0xD9, 0x9C, 0x03], [0xDA], [0xDB, 0x9C, 0x03], [0xDC, 0x9C, 0x03], [0xDD, 0x9C, 0x03],
      [0xDE, 0x9C, 0x03], [0xDF, 0x9C, 0x03] ]
    [
      .bne 0x9C, .cmpIzy 0x9C, .jamD2, .dcpIzy 0x9C, .nopD4 0x9C, .cmpZpx 0x9C, .decZpx 0x9C, .dcpZpx 0x9C,
      .cld, .cmpAby 0x039C, .nopDA, .dcpAby 0x039C, .nopDC 0x039C, .cmpAbx 0x039C, .decAbx 0x039C,
      .dcpAbx 0x039C ] := by
  decide

/-- Row Ex of the opcode map (spec/30_encoding.md R156), each word with the operand bytes 9C and 03. -/
theorem test_decode_row_E : readsAs
    [
      [0xE0, 0x9C], [0xE1, 0x9C], [0xE2, 0x9C], [0xE3, 0x9C], [0xE4, 0x9C], [0xE5, 0x9C], [0xE6, 0x9C],
      [0xE7, 0x9C], [0xE8], [0xE9, 0x9C], [0xEA], [0xEB, 0x9C], [0xEC, 0x9C, 0x03], [0xED, 0x9C, 0x03],
      [0xEE, 0x9C, 0x03], [0xEF, 0x9C, 0x03] ]
    [
      .cpxImm 0x9C, .sbcIzx 0x9C, .nopE2 0x9C, .isbIzx 0x9C, .cpxZp 0x9C, .sbcZp 0x9C, .incZp 0x9C,
      .isbZp 0x9C, .inx, .sbcImm 0x9C, .nop, .sbcImmEB 0x9C, .cpxAbs 0x039C, .sbcAbs 0x039C, .incAbs 0x039C,
      .isbAbs 0x039C ] := by
  decide

/-- Row Fx of the opcode map (spec/30_encoding.md R156), each word with the operand bytes 9C and 03. -/
theorem test_decode_row_F : readsAs
    [
      [0xF0, 0x9C], [0xF1, 0x9C], [0xF2], [0xF3, 0x9C], [0xF4, 0x9C], [0xF5, 0x9C], [0xF6, 0x9C], [0xF7, 0x9C],
      [0xF8], [0xF9, 0x9C, 0x03], [0xFA], [0xFB, 0x9C, 0x03], [0xFC, 0x9C, 0x03], [0xFD, 0x9C, 0x03],
      [0xFE, 0x9C, 0x03], [0xFF, 0x9C, 0x03] ]
    [
      .beq 0x9C, .sbcIzy 0x9C, .jamF2, .isbIzy 0x9C, .nopF4 0x9C, .sbcZpx 0x9C, .incZpx 0x9C, .isbZpx 0x9C,
      .sed, .sbcAby 0x039C, .nopFA, .isbAby 0x039C, .nopFC 0x039C, .sbcAbx 0x039C, .incAbx 0x039C,
      .isbAbx 0x039C ] := by
  decide
/-- The decoder refuses, by name, no byte at all and an operand that is cut off (R152). -/
theorem test_decode_refuses :
    decode [] = .error .noOpcode ∧ decode [0xA9] = .error (.missingOperand 0xA9) ∧
    decode [0xAD, 0x34] = .error (.missingOperand 0xAD) := by decide

/-! How the host asks: table words, and the first step after reset. -/

theorem test_table_words :
    decodeTableWord 16 0x80A9 = some (.ldaImm 0x80) ∧ decodeTableWord 24 0x12344C = some (.jmpAbs 0x1234) ∧
    decodeTableWord 8 0xAD = some (.ldaAbs 0x0000) ∧ decodeTableWord 8 0x02 = some .jam02 := by decide

/-- The placed instruction is what the next step runs, in RAM from reset, and an unofficial one too. -/
theorem test_fetch_word :
    (after (State.reset.withFetchWord 16 0x80A9)).a = 0x80 ∧
    (after (State.reset.withFetchWord 16 0x80EB)).a = 0x7F ∧
    (after (State.reset.withFetchWord 24 0x12344C)).pc = 0x1234 := by decide

/-! Addressing modes, spec/95_test_vectors.md 2.1. -/

theorem test_zero_page_indexed :
    runs [0xB5, 0xF0] { x := 0x20, ram := [(0x10, 0x66)] }
      { a := 0x66, x := 0x20, pc := 0xC002, ram := [(0x10, 0x66)] } 4 ∧
    runs [0xB6, 0xFF] { y := 0x02, ram := [(0x01, 0x5A)] }
      { x := 0x5A, y := 0x02, pc := 0xC002, ram := [(0x01, 0x5A)] } 4 ∧
    runs [0x96, 0xFF] { x := 0x33, y := 0x02 } { x := 0x33, y := 0x02, pc := 0xC002, ram := [(0x01, 0x33)] } 4 := by
  decide

theorem test_absolute_indexed :
    runs [0xBD, 0x00, 0x12] { x := 0x20, ram := [(0x220, 0x01)] }
      { a := 0x01, x := 0x20, pc := 0xC003, ram := [(0x220, 0x01)] } 4 ∧
    runs [0xBD, 0xF0, 0x12] { x := 0x20, ram := [(0x310, 0x77)] }
      { a := 0x77, x := 0x20, pc := 0xC003, ram := [(0x310, 0x77)] } 5 ∧
    runs [0xBD, 0xF0, 0xFF] { x := 0x20, ram := [(0x10, 0x66)] }
      { a := 0x66, x := 0x20, pc := 0xC003, ram := [(0x10, 0x66)] } 5 ∧
    runs [0xB9, 0x00, 0x08] { y := 0x05, ram := [(0x05, 0x46)] }
      { a := 0x46, y := 0x05, pc := 0xC003, ram := [(0x05, 0x46)] } 4 ∧
    runs [0x9D, 0xF0, 0x02] { a := 0x11, x := 0x20 } { a := 0x11, x := 0x20, pc := 0xC003, ram := [(0x310, 0x11)] } 5 := by
  decide +kernel

theorem test_indirect :
    runs [0xA1, 0xFE] { x := 0x01, ram := [(0x00, 0x02), (0xFF, 0x34), (0x234, 0x99)] }
      { a := 0x99, x := 0x01, p := 0xA4, pc := 0xC002, ram := [(0x00, 0x02), (0xFF, 0x34), (0x234, 0x99)] } 6 ∧
    runs [0xB1, 0x10] { y := 0x10, ram := [(0x10, 0xF8), (0x11, 0x02), (0x308, 0x42)] }
      { a := 0x42, y := 0x10, pc := 0xC002, ram := [(0x10, 0xF8), (0x11, 0x02), (0x308, 0x42)] } 6 ∧
    runs [0xB1, 0xFF] { y := 0x01, ram := [(0x00, 0x03), (0x301, 0x45)] }
      { a := 0x45, y := 0x01, pc := 0xC002, ram := [(0x00, 0x03), (0x301, 0x45)] } 5 ∧
    runs [0x6C, 0xFF, 0x02] { ram := [(0x200, 0x12), (0x2FF, 0x34), (0x300, 0x56)] }
      { pc := 0x1234, ram := [(0x200, 0x12), (0x2FF, 0x34), (0x300, 0x56)] } 5 := by decide +kernel

theorem test_open_bus : runs [0xAD, 0x08, 0x40] {} { p := 0x26, pc := 0xC003 } 4 := by decide

/-! Loads, transfers and the stack, 2.2 and 2.3. -/

theorem test_load_transfer :
    runs [0xA9, 0x00] {} { p := 0x26, pc := 0xC002 } 2 ∧
    runs [0xA9, 0x80] {} { a := 0x80, p := 0xA4, pc := 0xC002 } 2 ∧
    runs [0xAA] { x := 0x55 } { p := 0x26, pc := 0xC001 } 2 ∧
    runs [0xBA] { sp := 0x80 } { x := 0x80, p := 0xA4, sp := 0x80, pc := 0xC001 } 2 ∧
    runs [0x9A] { p := 0x26 } { p := 0x26, sp := 0x00, pc := 0xC001 } 2 := by decide

theorem test_push :
    runs [0x48] { a := 0x42, sp := 0x00 } { a := 0x42, sp := 0xFF, pc := 0xC001, ram := [(0x100, 0x42)] } 3 ∧
    runs [0x08] {} { sp := 0xFC, pc := 0xC001, ram := [(0x1FD, 0x34)] } 3 ∧
    runs [0x08] { p := 0xE7 } { p := 0xE7, sp := 0xFC, pc := 0xC001, ram := [(0x1FD, 0xF7)] } 3 := by decide

theorem test_pull :
    runs [0x68] { sp := 0xFF } { p := 0x26, sp := 0x00, pc := 0xC001 } 4 ∧
    runs [0x28] { ram := [(0x1FE, 0xFF)] } { p := 0xEF, sp := 0xFE, pc := 0xC001, ram := [(0x1FE, 0xFF)] } 4 ∧
    runs [0x28] {} { p := 0x20, sp := 0xFE, pc := 0xC001 } 4 := by decide

/-! Arithmetic, logic, bit test and compare, 2.4. -/

theorem test_adc :
    runs [0x69, 0xFF] { a := 0x02 } { a := 0x01, p := 0x25, pc := 0xC002 } 2 ∧
    runs [0x69, 0x01] { a := 0x7F } { a := 0x80, p := 0xE4, pc := 0xC002 } 2 ∧
    runs [0x69, 0xFF] { a := 0xFF, p := 0x25 } { a := 0xFF, p := 0xA5, pc := 0xC002 } 2 ∧
    runs [0x69, 0x80] { a := 0x80 } { a := 0x00, p := 0x67, pc := 0xC002 } 2 ∧
    runs [0x69, 0x09] { a := 0x09, p := 0x2C } { a := 0x12, p := 0x2C, pc := 0xC002 } 2 := by decide

theorem test_sbc :
    runs [0xE9, 0xFF] { a := 0x02, p := 0x25 } { a := 0x03, p := 0x24, pc := 0xC002 } 2 ∧
    runs [0xE9, 0x01] { a := 0x80, p := 0x25 } { a := 0x7F, p := 0x65, pc := 0xC002 } 2 ∧
    runs [0xE9, 0x05] { a := 0x05, p := 0x25 } { a := 0x00, p := 0x27, pc := 0xC002 } 2 ∧
    runs [0xE9, 0x05] { a := 0x05 } { a := 0xFF, p := 0xA4, pc := 0xC002 } 2 ∧
    runs [0xE9, 0xFF] { a := 0x7F, p := 0x25 } { a := 0x80, p := 0xE4, pc := 0xC002 } 2 := by decide

theorem test_logic :
    runs [0x29, 0x0F] { a := 0xF0 } { a := 0x00, p := 0x26, pc := 0xC002 } 2 ∧
    runs [0x09, 0x80] { a := 0x01 } { a := 0x81, p := 0xA4, pc := 0xC002 } 2 ∧
    runs [0x49, 0xFF] { a := 0xFF } { a := 0x00, p := 0x26, pc := 0xC002 } 2 ∧
    runs [0x24, 0x10] { ram := [(0x10, 0xC0)] } { p := 0xE6, pc := 0xC002, ram := [(0x10, 0xC0)] } 3 ∧
    runs [0x24, 0x10] { a := 0x01, p := 0xE4, ram := [(0x10, 0x01)] }
      { a := 0x01, p := 0x24, pc := 0xC002, ram := [(0x10, 0x01)] } 3 := by decide

theorem test_compare :
    runs [0xC9, 0x01] {} { p := 0xA4, pc := 0xC002 } 2 ∧
    runs [0xC9, 0x00] { a := 0x80 } { a := 0x80, p := 0xA5, pc := 0xC002 } 2 ∧
    runs [0xC9, 0x40] { a := 0x40 } { a := 0x40, p := 0x27, pc := 0xC002 } 2 ∧
    runs [0xE0, 0x10] { x := 0x08 } { x := 0x08, p := 0xA4, pc := 0xC002 } 2 ∧
    runs [0xC0, 0x00] {} { p := 0x27, pc := 0xC002 } 2 ∧
    runs [0xD9, 0xF0, 0x12] { y := 0x20 } { y := 0x20, p := 0x27, pc := 0xC003 } 5 := by decide +kernel

/-! Branches, jumps, calls and returns, 2.5. -/

theorem test_branches :
    runs [0xD0, 0xFE] {} { pc := 0xC000 } 3 ∧ runs [0xF0, 0xFE] {} { pc := 0xC002 } 2 ∧
    runs [0x10, 0x00] {} { pc := 0xC002 } 3 ∧ runs [0x90, 0x7F] {} { pc := 0xC081 } 3 ∧
    runs [0xB0, 0x10] { p := 0x25, pc := 0xC0F0 } { p := 0x25, pc := 0xC102 } 4 ∧
    runs [0x70, 0x80] { p := 0x64 } { p := 0x64, pc := 0xBF82 } 4 := by decide

/-- BMI and BVC by R322 and R323, taken and not taken. -/
theorem test_branches_on_n_and_v :
    runs [0x30, 0x10] { p := 0xA4 } { p := 0xA4, pc := 0xC012 } 3 ∧ runs [0x30, 0x10] {} { pc := 0xC002 } 2 ∧
    runs [0x50, 0x10] {} { pc := 0xC012 } 3 ∧ runs [0x50, 0x10] { p := 0x64 } { p := 0x64, pc := 0xC002 } 2 := by
  decide

theorem test_jumps :
    runs [0x4C, 0x34, 0x12] {} { pc := 0x1234 } 3 ∧
    runs [0x20, 0x00, 0xD0] {} { sp := 0xFB, pc := 0xD000, ram := [(0x1FC, 0x02), (0x1FD, 0xC0)] } 6 ∧
    runs [0x60] { sp := 0xFB, ram := [(0x1FC, 0x02), (0x1FD, 0xC0)] }
      { pc := 0xC003, ram := [(0x1FC, 0x02), (0x1FD, 0xC0)] } 6 ∧
    runs [0x60] { sp := 0xFB, ram := [(0x1FC, 0xFF), (0x1FD, 0xFF)] }
      { pc := 0x0000, ram := [(0x1FC, 0xFF), (0x1FD, 0xFF)] } 6 := by decide +kernel

theorem test_brk_rti :
    runs [0x40] { sp := 0xFA, ram := [(0x1FB, 0xFF), (0x1FC, 0x23), (0x1FD, 0xC1)] }
      { p := 0xEF, pc := 0xC123, ram := [(0x1FB, 0xFF), (0x1FC, 0x23), (0x1FD, 0xC1)] } 6 ∧
    runs [0x00] {} { sp := 0xFA, pc := 0xE000, ram := [(0x1FB, 0x34), (0x1FC, 0x02), (0x1FD, 0xC0)] } 7 ∧
    runs [0x00] { p := 0x20 } { sp := 0xFA, pc := 0xE000, ram := [(0x1FB, 0x30), (0x1FC, 0x02), (0x1FD, 0xC0)] } 7 := by
  decide +kernel

/-! Increments, shifts and flags, 2.6 and 2.7. -/

theorem test_increments :
    runs [0xE6, 0x10] { ram := [(0x10, 0xFF)] } { p := 0x26, pc := 0xC002 } 5 ∧
    runs [0xC6, 0x10] {} { p := 0xA4, pc := 0xC002, ram := [(0x10, 0xFF)] } 5 ∧
    runs [0xFE, 0xF0, 0x02] { x := 0x20, ram := [(0x310, 0x7F)] }
      { x := 0x20, p := 0xA4, pc := 0xC003, ram := [(0x310, 0x80)] } 7 ∧
    runs [0xE8] { x := 0xFF } { p := 0x26, pc := 0xC001 } 2 ∧
    runs [0x88] {} { y := 0xFF, p := 0xA4, pc := 0xC001 } 2 := by decide +kernel

theorem test_shifts :
    runs [0x0A] { a := 0x80 } { p := 0x27, pc := 0xC001 } 2 ∧ runs [0x4A] { a := 0x01 } { p := 0x27, pc := 0xC001 } 2 ∧
    runs [0x2A] { a := 0x80 } { p := 0x27, pc := 0xC001 } 2 ∧
    runs [0x6A] { p := 0x25 } { a := 0x80, p := 0xA4, pc := 0xC001 } 2 ∧
    runs [0x26, 0x10] { p := 0x25, ram := [(0x10, 0x40)] } { p := 0xA4, pc := 0xC002, ram := [(0x10, 0x81)] } 5 ∧
    runs [0x66, 0x10] { ram := [(0x10, 0x01)] } { p := 0x27, pc := 0xC002 } 5 := by decide +kernel

theorem test_flags :
    runs [0x18] { p := 0x25 } { p := 0x24, pc := 0xC001 } 2 ∧ runs [0x38] {} { p := 0x25, pc := 0xC001 } 2 ∧
    runs [0x58] {} { p := 0x20, pc := 0xC001 } 2 ∧ runs [0x78] { p := 0x20 } { p := 0x24, pc := 0xC001 } 2 ∧
    runs [0xD8] { p := 0x2C } { p := 0x24, pc := 0xC001 } 2 ∧ runs [0xF8] {} { p := 0x2C, pc := 0xC001 } 2 ∧
    runs [0xB8] { p := 0x64 } { p := 0x24, pc := 0xC001 } 2 ∧ runs [0xEA] { a := 0x12 } { a := 0x12, pc := 0xC001 } 2 := by
  decide

/-! The unofficial opcodes, 2.8. -/

theorem test_unofficial_gate :
    stops (startFrom base [0xA7, 0x10] {}) (.illegalOpcode 0xC000 0xA7) 0xC000 7 ∧
    stops (startFrom base [0xEB, 0x01] {}) (.illegalOpcode 0xC000 0xEB) 0xC000 7 ∧
    stops (startFrom nes [0x02] {}) (.illegalOpcode 0xC000 0x02) 0xC000 7 ∧
    stops (startFrom nes [0x9B, 0x00, 0x00] {}) (.illegalOpcode 0xC000 0x9B) 0xC000 7 := by decide

theorem test_lax_sax_sbc :
    runsNes [0xA7, 0x10] { ram := [(0x10, 0x80)] }
      { a := 0x80, x := 0x80, p := 0xA4, pc := 0xC002, ram := [(0x10, 0x80)] } 3 ∧
    runsNes [0xB7, 0x10] { y := 0x01 } { y := 0x01, p := 0x26, pc := 0xC002 } 4 ∧
    runsNes [0xBF, 0xF0, 0x02] { y := 0x20, ram := [(0x310, 0x01)] }
      { a := 0x01, x := 0x01, y := 0x20, pc := 0xC003, ram := [(0x310, 0x01)] } 5 ∧
    runsNes [0x87, 0x10] { a := 0xF0, x := 0x3C }
      { a := 0xF0, x := 0x3C, pc := 0xC002, ram := [(0x10, 0x30)] } 3 ∧
    runsNes [0xEB, 0x01] { p := 0x25 } { a := 0xFF, p := 0xA4, pc := 0xC002 } 2 := by decide +kernel

theorem test_dcp_isb :
    runsNes [0xC7, 0x10] { a := 0x40, ram := [(0x10, 0x41)] }
      { a := 0x40, p := 0x27, pc := 0xC002, ram := [(0x10, 0x40)] } 5 ∧
    runsNes [0xC7, 0x10] { a := 0x40 } { a := 0x40, pc := 0xC002, ram := [(0x10, 0xFF)] } 5 ∧
    runsNes [0xE7, 0x10] { a := 0x05, p := 0x25, ram := [(0x10, 0x01)] }
      { a := 0x03, p := 0x25, pc := 0xC002, ram := [(0x10, 0x02)] } 5 ∧
    runsNes [0xE7, 0x10] { a := 0x05, ram := [(0x10, 0xFF)] } { a := 0x04, p := 0x25, pc := 0xC002 } 5 ∧
    runsNes [0xD3, 0x10] { y := 0x20, ram := [(0x10, 0xF0), (0x11, 0x02), (0x310, 0x01)] }
      { y := 0x20, p := 0x27, pc := 0xC002, ram := [(0x10, 0xF0), (0x11, 0x02)] } 8 := by decide +kernel

theorem test_slo_rla_sre_rra :
    runsNes [0x07, 0x10] { ram := [(0x10, 0x81)] } { a := 0x02, p := 0x25, pc := 0xC002, ram := [(0x10, 0x02)] } 5 ∧
    runsNes [0x27, 0x10] { a := 0xFF, p := 0x25, ram := [(0x10, 0x80)] }
      { a := 0x01, p := 0x25, pc := 0xC002, ram := [(0x10, 0x01)] } 5 ∧
    runsNes [0x47, 0x10] { a := 0x01, ram := [(0x10, 0x03)] } { p := 0x27, pc := 0xC002, ram := [(0x10, 0x01)] } 5 ∧
    runsNes [0x67, 0x10] { a := 0x10, ram := [(0x10, 0x02)] } { a := 0x11, pc := 0xC002, ram := [(0x10, 0x01)] } 5 ∧
    runsNes [0x67, 0x10] { a := 0x7F, ram := [(0x10, 0x03)] }
      { a := 0x81, p := 0xE4, pc := 0xC002, ram := [(0x10, 0x01)] } 5 := by decide +kernel

theorem test_unofficial_nops :
    runsNes [0x1A] {} { pc := 0xC001 } 2 ∧ runsNes [0x80, 0xFF] {} { pc := 0xC002 } 2 ∧
    runsNes [0x0C, 0x00, 0x04] {} { pc := 0xC003 } 4 ∧
    runsNes [0x1C, 0xF0, 0x02] { x := 0x20 } { x := 0x20, pc := 0xC003 } 5 := by decide +kernel

/-! Interrupts, stalls and faults, 2.9. -/

theorem test_nmi_entry :
    let s : State := { startFrom base [0xEA] { pc := 0xC123 } with nmiPending := true }
    stepsTo s { sp := 0xFA, pc := 0xD000, ram := [(0x1FB, 0x24), (0x1FC, 0x23), (0x1FD, 0xC1)] } 7 ∧
    (after s).nmiPending = false ∧ (after s).ppu.scanline = 241 ∧ (after s).ppu.cycle = 20 ∧
    Memory.read (after { s with cfg := { s.cfg with intPushB := true } }).ram 0x1FB = 0x34 := by decide +kernel

theorem test_irq_entry :
    let s := fun p : Byte => ({ startFrom base [0xEA] { pc := 0xC123, p := p } with irq := true } : State)
    stepsTo (s 0x20) { sp := 0xFA, pc := 0xE000, ram := [(0x1FB, 0x20), (0x1FC, 0x23), (0x1FD, 0xC1)] } 7 ∧
    stepsTo (s 0x24) { pc := 0xC124 } 2 ∧
    (after { s 0x20 with nmiPending := true }).pc = 0xD000 := by decide +kernel

theorem test_stall_first :
    let s : State := { base with nmiPending := true, stall := 2 }
    (after s).stall = 1 ∧ (after s).cycles = 8 ∧ (after s).nmiPending = true ∧ (after s).pc = 0xC000 ∧
    (after s).ppu.cycle = 2 := by decide

theorem test_faults :
    stops (startFrom base [0x8D, 0x00, 0x50] { a := 0x01 }) (.unmappedAddress 0x5000 .write) 0xC003 11 ∧
    stops (startFrom base [0xAD, 0x00, 0x50] {}) (.unmappedAddress 0x5000 .read) 0xC003 11 ∧
    stops { base with pc := 0x5000 } (.unmappedAddress 0x5000 .read) 0x5000 7 ∧
    stops (startFrom base [0xBD, 0x00, 0x40] { x := 0x21 }) (.unmappedAddress 0x4021 .read) 0xC003 11 := by
  decide

/-! The PPU's registers and the DMA, 2.10. -/

theorem test_status_read :
    let s := withPpu (fun p => { p with vblank := true, latch := 0x15, w := true }) base
    (rd 0x2002 s).1 = 0x95 ∧ (seen 0x2002 s).ppu.vblank = false ∧ (seen 0x2002 s).ppu.w = false ∧
    (rd 0x2002 (seen 0x2002 s)).1 = 0x15 := by decide

theorem test_ctrl_and_scroll :
    (rd 0x2008 (wr 0x2000 0x93 base)).1 = 0x93 ∧ (wr 0x2000 0x93 base).ppu.t = 0x0C00 ∧
    (rd 0x2008 (wr 0x2001 0x1E (wr 0x2000 0x93 base))).1 = 0x1E ∧
    (wr 0x2005 0x7D base).ppu.t = 0x000F ∧ (wr 0x2005 0x7D base).ppu.x = 5 ∧
    (wr 0x2005 0x5E (wr 0x2005 0x7D base)).ppu.t = 0x616F ∧ (wr 0x2006 0xE1 base).ppu.t = 0x2100 ∧
    (wr 0x2006 0x08 (wr 0x2006 0xE1 base)).ppu.v = 0x2108 := by decide

theorem test_data_port :
    let s := { withPpu (fun p => { p with v := 0x2108, readBuffer := 0x99 }) base with vram := [(0x108, 0x11), (0x109, 0x22)] }
    (rd 0x2007 s).1 = 0x99 ∧ (rd 0x2007 (seen 0x2007 s)).1 = 0x11 ∧ (seen 0x2007 (seen 0x2007 s)).ppu.v = 0x210A ∧
    (wr 0x2007 0x2A (withPpu (fun p => { p with v := 0x3F10 }) base)).palette = [(0, 0x2A)] := by decide

theorem test_palette_read :
    let s := { withPpu (fun p => { p with v := 0x3F00 }) base with vram := [(0x700, 0x5C)], palette := [(0, 0x2A)] }
    (rd 0x2007 s).1 = 0x2A ∧ (seen 0x2007 s).ppu.readBuffer = 0x5C ∧ (seen 0x2007 s).ppu.v = 0x3F01 := by
  decide

theorem test_oam_port :
    let s := wr 0x2004 0x03 (wr 0x2004 0x02 (wr 0x2004 0x01 (wr 0x2003 0xFE base)))
    s.oam = [(0x00, 0x03), (0xFE, 0x01), (0xFF, 0x02)] ∧ s.ppu.oamAddr = 0x01 ∧ (rd 0x2004 s).1 = 0x00 := by
  decide

theorem test_nmi_delay :
    let s := wr 0x2000 0x80 (withPpu (fun p => { p with vblank := true }) (at_ 250 0 base))
    s.ppu.nmiDelay = 15 ∧ (ticks 14 s).nmiPending = false ∧ (ticks 15 s).nmiPending = true ∧
    (ticks 15 (seen 0x2002 (tick s))).nmiPending = false ∧ (wr 0x2000 0x80 (ticks 5 s)).ppu.nmiDelay = 10 ∧
    (wr 0x2000 0x80 (wr 0x2000 0x00 (ticks 5 s))).ppu.nmiDelay = 15 := by decide +kernel

theorem test_oam_dma :
    let s := { withPpu (fun p => { p with oamAddr := 0x10 }) base with ram := [(0x301, 0x11), (0x3FF, 0xFF)], cycles := 100 }
    (wr 0x4014 0x03 s).oam = [(0x0F, 0xFF), (0x11, 0x11)] ∧ (wr 0x4014 0x03 s).stall = 513 ∧
    (wr 0x4014 0x03 s).ppu.oamAddr = 0x10 ∧ (wr 0x4014 0x03 { s with cycles := 101 }).stall = 514 := by decide +kernel

theorem test_scroll_increments :
    incX 0x001F = 0x0400 ∧ incX 0x0005 = 0x0006 ∧ incY 0x0000 = 0x1000 ∧ incY 0x73A0 = 0x0800 ∧
    incY 0x73C0 = 0x03E0 ∧ incY 0x73E0 = 0x0000 ∧ copyX 0x7BE0 0x041F = 0x7FFF ∧ copyY 0x041F 0x7BE0 = 0x7FFF := by
  decide

/-- Part 1 S7: the first tick after power-on reaches (241, 0), the second sets vblank. -/
theorem test_first_ticks :
    (tick base).ppu.scanline = 241 ∧ (tick base).ppu.vblank = false ∧ (ticks 2 base).ppu.cycle = 1 ∧
    (ticks 2 base).ppu.vblank = true := by decide

/-! The cartridge, the mappers and the controllers, 2.11 and 2.12. -/

theorem test_headers :
    headerMirror [0x4E, 0x45, 0x53, 0x1A, 2, 1, 0x01, 0x00] = .vertical ∧
    mapperId [0x4E, 0x45, 0x53, 0x1A, 8, 0, 0x20, 0x00] = 2 ∧ mapperId [0x4E, 0x45, 0x53, 0x1A, 2, 4, 0x31, 0x00] = 3 ∧
    headerMirror [0x4E, 0x45, 0x53, 0x1A, 1, 1, 0x08, 0x00] = .fourScreen ∧
    imageSize [0x4E, 0x45, 0x53, 0x1A, 1, 1, 0x04, 0x00] = 16 + 512 + 16384 + 8192 := by decide

/-- An UxROM cartridge of 64 KB, bank k holding the byte B0 + k at its offset 0x3F00. -/
def uxrom : State :=
  { base with
    prgRom := [(0x3F00, 0xB0), (0x7F00, 0xB1), (0xBF00, 0xB2), (0xFF00, 0xB3)]
    map := ⟨16384, 8192, [0, 3], [0], []⟩
    cart := { base.cart with kind := .uxrom, prgSize := 65536, chrIsRam := true } }

/-- A CNROM cartridge with 32 KB of CHR ROM. -/
def cnrom : State :=
  { base with
    chr := [(0x4000, 0x77)]
    cart := { base.cart with kind := .cnrom, chrSize := 32768 } }

theorem test_uxrom :
    (rd 0xBF00 uxrom).1 = 0xB0 ∧ (rd 0xBF00 (wr 0x8000 0x06 uxrom)).1 = 0xB2 ∧
    (rd 0xBF00 (wr 0xFFF0 0xFF uxrom)).1 = 0xB3 ∧ (rd 0xFF00 (wr 0x8000 0x06 uxrom)).1 = 0xB3 := by decide

theorem test_cnrom : (wr 0x8000 0x06 cnrom).map.chrWin = [2] ∧ ppuRead 0x0000 (wr 0x8000 0x06 cnrom) = 0x77 := by
  decide

/-- What hooks may ask for (R551, R559, R569), in order: a bank of PRG, the mirroring, an own register. -/
theorem test_hook_acts :
    let s := { uxrom with map := { uxrom.map with regs := [0, 0] } }
    let t := runActs [.setPrg 0 (-1), .setMirror .vertical, .setReg 1 9, .setReg 1 5] s
    t.map = ⟨16384, 8192, [3, 3], [0], [0, 5]⟩ ∧ t.mirror = .vertical ∧ t.vram = s.vram := by decide

/-- The hooks a read or write of an address meets (R552, R553), by its range. -/
theorem test_hook_ranges :
    let h : WriteHook := ⟨0x8000, 0xFFFF, true, fun _ _ v => [.setPrg 0 v.toNat]⟩
    let r : ReadHook := ⟨0x6000, 0x6000, true, fun _ _ => 0x12, fun _ _ => []⟩
    h.covers 0x8000 = true ∧ h.covers 0xFFFF = true ∧ h.covers 0x7FFF = false ∧ r.covers 0x6000 = true ∧
    r.covers 0x6001 = false := by decide

/-- Part 1 S6: 128 KB of PRG, window 0 set to 11, -1, -9 and 17. -/
theorem test_window_property :
    let s := { uxrom with cart := { uxrom.cart with prgSize := 131072 } }
    (setPrgWindow 0 11 s).map.prgWin = [3, 3] ∧ (setPrgWindow 0 (-1) s).map.prgWin = [7, 3] ∧
    (setPrgWindow 0 (-9) s).map.prgWin = [7, 3] ∧ (setPrgWindow 0 17 s).map.prgWin = [1, 3] := by decide

theorem test_controllers :
    let s := wr 0x4016 0x01 { base with pads := { base.pads with buttons1 := 0x81 } }
    let r := fun k : Nat => (rd 0x4016 ((seen 0x4016)^[k] (wr 0x4016 0x00 s))).1
    (rd 0x4016 (seen 0x4016 s)).1 = 0x01 ∧ [r 0, r 1, r 6, r 7, r 8, r 9] = [1, 0, 0, 1, 0, 0] ∧
    (wr 0x4017 0x01 base) = base := by decide

theorem test_second_controller :
    let s := wr 0x4016 0x00 (wr 0x4016 0x01 { base with pads := { base.pads with buttons1 := 0x01, buttons2 := 0x82 } })
    let r := fun k : Nat => (rd 0x4017 ((seen 0x4017)^[k] s)).1
    [r 0, r 1, r 6, r 7, r 8] = [0, 1, 0, 1, 0] ∧ (rd 0x4016 (seen 0x4017 s)).1 = 1 := by decide

theorem test_memory_map :
    (rd 0x0001 (wr 0x0801 0x5A base)).1 = 0x5A ∧ (rd 0x1801 (wr 0x0801 0x5A base)).1 = 0x5A ∧
    (rd 0x6000 (wr 0x6000 0x77 base)).1 = 0x77 ∧ wr 0x8000 0x77 base = base := by decide

/-- Part 1 S8: nametable mirroring. -/
theorem test_nametable_mirroring :
    let s := ppuWrite 0x2400 0xA1 (ppuWrite 0x2000 0xA0 base)
    let v := ppuWrite 0x2400 0xA1 (ppuWrite 0x2000 0xA0 { base with mirror := .vertical })
    s.vram = [(0x000, 0xA1)] ∧ [ppuRead 0x2000 s, ppuRead 0x2800 s] = [0xA1, 0x00] ∧
    v.vram = [(0x000, 0xA0), (0x400, 0xA1)] ∧ [ppuRead 0x2800 v, ppuRead 0x2C00 v] = [0xA0, 0xA1] := by decide

/-! Reset, 2.13. -/

theorem test_warm_reset :
    let s := warmReset { base with
      a := 0x12, x := 0x34, sp := 0x80, p := Flags.ofByte 0xE3, cycles := 1000, stall := 5, nmiPending := true
      ppu := { base.ppu with ctrl := 0x80, scanline := 3, v := 0x1234 } }
    s.a = 0x12 ∧ s.x = 0x34 ∧ s.sp = 0xFD ∧ s.p.toByte = 0xE7 ∧ s.cycles = 1007 ∧ s.stall = 0 ∧ s.nmiPending = false ∧
    s.pc = 0xC000 ∧ s.ppu.scanline = 240 ∧ s.ppu.ctrl = 0x00 ∧ s.ppu.v = 0x1234 := by decide

/-- The end of P5: a fault at END_PC is no end, a jump to itself there is one (spec/60_exceptions.md R446). -/
theorem test_at_end :
    atEnd 0xC000 (startFrom base [0x4C, 0x00, 0xC0] {}) = true ∧
    atEnd 0xC000 { startFrom base [0x4C, 0x00, 0xC0] {} with fault := some (.illegalOpcode 0 0) } = false := by
  decide

/-- The run ends at the first boundary that meets END_PC or END_STEPS (R446): here after one NOP, or before any step. -/
theorem test_run_until :
    let s := startFrom base [0xEA, 0x4C, 0x01, 0xC0] {}
    let ends := fun (e : RunEnd) (fuel : Nat) => (runUntil e fuel 0 s).map fun r => (r.1, r.2.pc)
    ends { endPc := some 0xC001 } 4 = some (1, 0xC001) ∧ ends { endSteps := some 1 } 4 = some (1, 0xC001) ∧
    ends { endPc := some 0xC001, endSteps := some 0 } 4 = some (0, 0xC000) ∧ ends { endPc := some 0xC001 } 0 = none ∧
    ends {} 1 = none := by decide

/-- Neither a fault nor a step budget past it ends the run (R446). -/
theorem test_run_until_fault :
    runUntil { endSteps := some 2 } 4 0 (startFrom nes [0x02] {}) = none := by decide

/-- The trace line is the record in the format the host gives (R10, R441): here the mnemonic and the operand. -/
theorem test_trace_line :
    traceLine (fun r => r.mnemonic ++ " " ++ r.operand) (startFrom base [0xBD, 0xF0, 0x12] {}) = some "LDA $12F0,X" ∧
    traceLine (fun r => r.mnemonic) { base with stall := 1 } = none := by decide

/-! Witnesses: for every obligation with hypotheses, concrete values that meet them, clause by clause, at the boundaries of their ranges. -/

theorem test_witness_DecodeTotal : decode [0xA9, 0x01, 0x02] = .ok (.ldaImm 0x01, [0x02]) := by decide

theorem test_witness_StepRunsDecoded :
    let s := startFrom base [0x8D, 0x00, 0x03] {}
    s.instrReady = true ∧ readBytes 3 s.pc s = .ok [0x8D, 0x00, 0x03] s ∧
    decode [0x8D, 0x00, 0x03] = .ok (.staAbs 0x0300, []) ∧ WellFormed s.cfg.unofficial (.staAbs 0x0300) = true :=
  ⟨by decide, eq_of_gives (by decide), by decide, by decide⟩

/-- Both sides of the equivalence hold of a three-byte instruction. -/
theorem test_witness_FetchReadsEncoding :
    let s := startFrom base [0x8D, 0x00, 0x03] {}
    fetch s = .ok (.staAbs 0x0300) s ∧ readBytes 3 s.pc s = .ok (encode (.staAbs 0x0300)) s :=
  ⟨eq_of_gives (by decide), eq_of_gives (by decide)⟩

theorem test_witness_IllegalFetch :
    let s := startFrom nes [0x02] {}
    let u := startFrom base [0xA7, 0x10] {}
    let v : State := { base with pc := 0x5FFF }
    (s.instrReady = true ∧ unmapped s.pc = false ∧ readValue s.pc s = opcodeOf .jam02 ∧
      WellFormed s.cfg.unofficial .jam02 = false) ∧
    (u.instrReady = true ∧ unmapped u.pc = false ∧ readValue u.pc u = opcodeOf (.laxZp 0x10) ∧
      WellFormed u.cfg.unofficial (.laxZp 0x10) = false) ∧
    (v.instrReady = true ∧ unmapped v.pc = true ∧ unmapped 0x4021 = true ∧ unmapped 0x4020 = false ∧
      unmapped 0x6000 = false) := by decide

theorem test_witness_StallAndFaultedSteps :
    let s : State := { base with stall := 1, nmiPending := true }
    let t : State := { base with fault := some (.illegalOpcode 0xC000 0x02) }
    (s.fault = none ∧ 0 < s.stall ∧ s.nmiPending = true ∧ goesOn (step s) = true) ∧
    (t.fault = some (.illegalOpcode 0xC000 0x02) ∧ goesOn (step t) = false) := by decide

theorem test_witness_NmiStep :
    let s : State := { base with nmiPending := true, irq := true }
    s.fault = none ∧ s.stall = 0 ∧ s.nmiPending = true := by decide

theorem test_witness_IrqStep :
    let s : State := { base with irq := true, p := Flags.ofByte 0x20 }
    let t : State := { base with irq := true }
    (s.fault = none ∧ s.stall = 0 ∧ s.nmiPending = false ∧ s.irq = true ∧ s.p.i = false) ∧
    (t.fault = none ∧ t.stall = 0 ∧ t.nmiPending = false ∧ t.p.i = true) := by decide

theorem test_witness_AlwaysIllegal :
    Instr.status .jam02 = .alwaysIllegal ∧ Instr.status (.lasAby 0x1234) = .alwaysIllegal := by decide

theorem test_witness_UnofficialGate :
    Instr.status (.laxZp 0x10) = .unofficial ∧ base.cfg.unofficial = .fault ∧ Instr.status .brk = .documented := by
  decide

/-- Each clause at the ends of its range, with what it says there. -/
theorem test_witness_BusReadTable :
    let s := { withPpu (fun p => { p with latch := 0x5A }) base with ram := [(0x7FF, 0x11)], prgRam := [(0, 0x22)] }
    (rd 0x07FF s).1 = 0x11 ∧ (rd 0x1FFF s).1 = 0x11 ∧ (rd 0x2000 s).1 = 0x5A ∧ (rd 0x3FFE s).1 = 0x5A ∧
    (rd 0x4000 s).1 = 0x00 ∧ (rd 0x4015 s).1 = 0x00 ∧ (seen 0x4016 s).pads.index1 = 1 ∧ (seen 0x4017 s).pads.index2 = 1 ∧
    (rd 0x4018 s).1 = 0x00 ∧ answers (busRead 0x4020 s) = true ∧ answers (busRead 0x4021 s) = false ∧
    answers (busRead 0x5FFF s) = false ∧ (rd 0x6000 s).1 = 0x22 ∧ (rd 0xFFFF s).1 = 0xE0 := by decide

theorem test_witness_BusWriteTable :
    (wr 0x1FFF 0x11 base).ram = [(0x7FF, 0x11)] ∧ (wr 0x2000 0x01 base).ppu.ctrl = 0x01 ∧
    (wr 0x3FFD 0x08 base).ppu.t = 0x0001 ∧ wr 0x4000 0x11 base = base ∧ wr 0x4013 0x11 base = base ∧
    wr 0x4015 0x11 base = base ∧ (wr 0x4016 0x01 base).pads.strobe = true ∧ wr 0x4017 0x01 base = base ∧
    wr 0x4020 0x11 base = base ∧ answers (busWrite 0x4020 0x11 base) = true ∧
    answers (busWrite 0x4021 0x11 base) = false ∧ answers (busWrite 0x5FFF 0x11 base) = false ∧
    (wr 0x6000 0x11 base).prgRam = [(0, 0x11)] ∧ (wr 0x7FFF 0x11 base).prgRam = [(0x1FFF, 0x11)] ∧
    wr 0xFFFF 0x11 base = base := by decide

theorem test_witness_RamMirroring :
    (0x07FF#16).toNat ≤ 0x1FFF ∧ (0x1FFF#16).toNat ≤ 0x1FFF ∧ (0x07FF#16).toNat % 0x800 = (0x1FFF#16).toNat % 0x800 ∧
    (0x0000#16).toNat ≤ 0x1FFF ∧ (0x0000#16).toNat % 0x800 ≠ (0x1FFF#16).toNat % 0x800 := by decide

theorem test_witness_PpuRegisterMirroring :
    BitVec.ofNat 16 (0x2000 + 8 * 1023 + 7) = 0x3FFF#16 ∧ (1023 : Nat) ≤ 1023 ∧ (7 : Nat) ≤ 7 ∧
    BitVec.ofNat 16 (0x2000 + 8 * 0 + 0) = 0x2000#16 := by decide

/-- The ends of the CHR range on a cartridge with CHR-RAM (a write lands, and is read back) and on one with CHR ROM (it does not), with the bank of the window (R554, R555). -/
theorem test_witness_PpuSpace_chr :
    let ram := { uxrom with map := { uxrom.map with chrWin := [1] }, cart := { uxrom.cart with chrSize := 16384 } }
    (ram.map.chrWin[0x1FFF / ram.map.chrW]? = some 1 ∧ ram.map.chrWin[0 / ram.map.chrW]? = some 1 ∧ ram.cart.chrIsRam = true) ∧
    (ppuWrite 0x5FFF 0x5A ram).chr = [(0x3FFF, 0x5A)] ∧ ppuRead 0x1FFF (ppuWrite 0x5FFF 0x5A ram) = 0x5A ∧
    (ppuWrite 0x0000 0x5A ram).chr = [(0x2000, 0x5A)] ∧ cnrom.cart.chrIsRam = false ∧ ppuWrite 0x1FFF 0x5A cnrom = cnrom := by
  decide

/-- PPU addresses at the ends of the three ranges, and one that is reduced mod 0x4000. -/
theorem test_witness_PpuSpace :
    let n := fun a : Addr => a.toNat % 0x4000
    n 0x1FFF ≤ 0x1FFF ∧ (0x2000 ≤ n 0x2000 ∧ n 0x2000 ≤ 0x3EFF) ∧ (0x2000 ≤ n 0x3EFF ∧ n 0x3EFF ≤ 0x3EFF) ∧
    0x3F00 ≤ n 0x3F00 ∧ 0x3F00 ≤ n 0xFFFF ∧ n 0x4000 ≤ 0x1FFF ∧ ntIndex .horizontal 0x2C05 = 0x405 ∧
    ntIndex .fourScreen 0x3EFF = 0xEFF ∧ palIndex 0x3F10 = 0x00 ∧ palIndex 0x3F1C = 0x0C ∧ palIndex 0x3FFF = 0x1F := by
  decide

theorem test_witness_WindowProperty :
    (uxrom.map.prgW ∣ 0x8000 ∧ 1 ≤ prgBanks uxrom ∧ 16383 < uxrom.map.prgW ∧ 0 < uxrom.map.prgWin.length ∧
      1 < uxrom.map.prgWin.length ∧ (0 + 1) * uxrom.map.prgW ≤ 0x8000 ∧ (1 + 1) * uxrom.map.prgW ≤ 0x8000) ∧
    (cnrom.map.chrW ∣ 0x2000 ∧ 1 ≤ chrBanks cnrom ∧ 8191 < cnrom.map.chrW ∧ 0 < cnrom.map.chrWin.length ∧
      (0 + 1) * cnrom.map.chrW ≤ 0x2000) := by decide

/-- The smallest ROM sizes, and the two ends of the range a write hook covers. -/
theorem test_witness_ConcreteMappers :
    initialMap .uxrom 16384 8192 = ⟨16384, 8192, [0, 0], [0], []⟩ ∧ initialMap .uxrom 65536 8192 = ⟨16384, 8192, [0, 3], [0], []⟩ ∧
    0x8000 ≤ (0x8000#16).toNat ∧ 0x8000 ≤ (0xFFFF#16).toNat ∧ irqInput { uxrom with irq := true } = true ∧
    irqInput uxrom = false := by decide

/-- The ends of PRG-RAM and of the two PRG windows (R552, R553). -/
theorem test_witness_ConcreteMappers_default :
    let s := wr 0x7FFF 0x5A (wr 0x6000 0x77 uxrom)
    0x6000 ≤ (0x6000#16).toNat ∧ (0x7FFF#16).toNat ≤ 0x7FFF ∧ s.prgRam = [(0, 0x77), (0x1FFF, 0x5A)] ∧
    (rd 0x6000 s).1 = 0x77 ∧ (rd 0x7FFF s).1 = 0x5A ∧ uxrom.map.prgWin[(0x8000 - 0x8000) / uxrom.map.prgW]? = some 0 ∧
    uxrom.map.prgWin[(0xBFFF - 0x8000) / uxrom.map.prgW]? = some 0 ∧
    uxrom.map.prgWin[(0xC000 - 0x8000) / uxrom.map.prgW]? = some 3 ∧
    uxrom.map.prgWin[(0xFFFF - 0x8000) / uxrom.map.prgW]? = some 3 := by decide

/-- A step of each ending, each meaning a change that must not reach ROM. -/
theorem test_witness_RomImmutable :
    goesOn (step (startFrom base [0x8D, 0x00, 0xC0] { a := 0x55 })) = true ∧
    (leftBy (step (startFrom nes [0x02] {}))).isSome = true ∧
    (leftBy (step (startFrom base [0x8D, 0x00, 0x50] {}))).isSome = true ∧
    (startFrom base [0x8D, 0x00, 0xC0] {}).cart.chrIsRam = false ∧ base.cart.kind = .nrom := by decide

/-- An image of 16 KB of PRG ROM and CHR-RAM, with the given bytes after it. -/
def smallImage (flags6 : Byte) (trailing : List Byte) : List Byte :=
  [0x4E, 0x45, 0x53, 0x1A, 0x01, 0x00, flags6, 0x00, 0x00, 0x00, 0x00, 0x00, 0x00, 0x00, 0x00, 0x00] ++
    (List.replicate 16384 0x11 ++ trailing)

theorem test_image_length (f : Byte) (t : List Byte) : (smallImage f t).length = 16400 + t.length := by
  simp only [smallImage, List.length_append, List.length_replicate, List.length_cons, List.length_nil]
  omega

theorem test_image_loads (t : List Byte) :
    loadImage [0x00] (smallImage 0x00 t) = .ok (cartOf .nrom (smallImage 0x00 t)) ∧
    imageSize (smallImage 0x00 t) = 16400 := by
  have hl := test_image_length 0x00 t
  have hp : prgCount (smallImage 0x00 t) = 1 := rfl
  have hc : chrCount (smallImage 0x00 t) = 0 := rfl
  have hr : hasTrainer (smallImage 0x00 t) = false := by
    change (0x00#8).getLsbD 2 = false
    decide
  have hs : imageSize (smallImage 0x00 t) = 16400 := by
    simp only [imageSize, trainerSize, hp, hc, hr]
    decide
  have hm : malformedAt (smallImage 0x00 t) = none := by
    unfold malformedAt
    rw [if_neg (by omega), hs]
    have : firstDifference 0 ((smallImage 0x00 t).take 4) imageMagic = none := rfl
    rw [this]
    simp only
    rw [if_neg (by omega), if_neg (by omega)]
  have hi : mapperId (smallImage 0x00 t) = 0#8 := by
    change (0x00#8 &&& 0xF0#8) ||| (0x00#8 >>> 4) = 0#8
    decide
  have hk : selectMapper [0x00] (mapperId (smallImage 0x00 t)) = some .nrom := by
    rw [hi]
    decide
  exact ⟨by simp only [loadImage, hm, hk], hs⟩

/-- An image that loads, without and with a trailing byte. -/
theorem test_witness_ImageRoundTrip :
    (∃ l, loadImage [0x00] (smallImage 0x00 []) = .ok l) ∧
    (smallImage 0x00 []).length = imageSize (smallImage 0x00 []) ∧
    (∃ l, loadImage [0x00] (smallImage 0x00 [0xAA]) = .ok l) ∧
    (smallImage 0x00 [0xAA]).length ≠ imageSize (smallImage 0x00 [0xAA]) :=
  ⟨⟨_, (test_image_loads []).1⟩, by rw [test_image_length, (test_image_loads []).2]; rfl,
    ⟨_, (test_image_loads _).1⟩, by rw [test_image_length, (test_image_loads _).2]; decide⟩

/-- The header of an image with the given byte 4 (PRG count) and byte 6, after the magic. -/
def shortRest (prg flags6 : Byte) : List Byte :=
  [prg, 0x00, flags6, 0x00, 0x00, 0x00, 0x00, 0x00, 0x00, 0x00, 0x00, 0x00]

theorem test_witness_LoadFaults_short :
    ([] : List Byte).length < 16 ∧ (List.replicate 15 0x4E : List Byte).length < 16 ∧
    loadImage [0x00] (List.replicate 15 0x4E) = .error (.malformedHeader 0) := by decide

theorem test_witness_LoadFaults_magic :
    let bad0 : List Byte := 0x00 :: 0x45 :: 0x53 :: 0x1A :: shortRest 0x01 0x00
    let bad3 : List Byte := 0x4E :: 0x45 :: 0x53 :: 0x00 :: shortRest 0x01 0x00
    let magic : List Byte := [0x4E, 0x45, 0x53, 0x1A]
    16 ≤ bad0.length ∧ bad0.take 0 = magic.take 0 ∧ bad0.getD 0 0 ≠ magic.getD 0 0 ∧
    16 ≤ bad3.length ∧ bad3.take 3 = magic.take 3 ∧ bad3.getD 3 0 ≠ magic.getD 3 0 ∧
    loadImage [0x00] bad3 = .error (.malformedHeader 3) := by decide

/-- No PRG bank; and one PRG bank announced with none of its bytes. -/
theorem test_witness_LoadFaults_sizes :
    let none0 : List Byte := 0x4E :: 0x45 :: 0x53 :: 0x1A :: shortRest 0x00 0x00
    let short : List Byte := 0x4E :: 0x45 :: 0x53 :: 0x1A :: shortRest 0x01 0x00
    12 ≤ (shortRest 0x00 0x00).length ∧ none0.getD 4 0 = 0 ∧ short.getD 4 0 ≠ 0 ∧ short.length < imageSize short ∧
    loadImage [0x00] none0 = .error (.malformedHeader 4) ∧ loadImage [0x00] short = .error (.malformedHeader 16) := by
  decide

/-- A well-formed image whose mapper id, 1, is not in the set; and one whose id, 0, is. -/
theorem test_witness_LoadFaults_mapper :
    imageSize (smallImage 0x10 []) ≤ (smallImage 0x10 []).length ∧ mapperId (smallImage 0x10 []) = 1 ∧
    (1#8) ∉ ([0x00, 0x02, 0x03] : List Byte) ∧ imageSize (smallImage 0x00 []) ≤ (smallImage 0x00 []).length ∧
    mapperId (smallImage 0x00 []) = 0 ∧ (0#8) ∈ ([0x00, 0x02, 0x03] : List Byte) ∧ (smallImage 0x00 []).getD 4 0 ≠ 0 :=
  ⟨by rw [test_image_length]; exact Nat.le_refl _, rfl, by decide,
    by rw [test_image_length]; exact Nat.le_refl _, rfl, by decide, by show (1#8 : Byte) ≠ 0; decide⟩

/-- An image that does not load and one that does, under the default `MAPPER_SET`. -/
theorem test_witness_PowerOn :
    loadImage Params.default.mapperSet [] = .error (.malformedHeader 0) ∧
    (∃ l, loadImage { Params.default with mapperSet := [0x00] }.mapperSet (smallImage 0x00 []) = .ok l) :=
  ⟨by decide, ⟨_, (test_image_loads []).1⟩⟩

theorem test_witness_DataPort :
    let s := fun v : BitVec 15 => withPpu (fun p => { p with v := v, readBuffer := 0x77 }) base
    (s 0x3EFF).ppu.v.toNat % 0x4000 < 0x3F00 ∧ (rd 0x2007 (s 0x3EFF)).1 = 0x77 ∧
    0x3F00 ≤ (s 0x3F00).ppu.v.toNat % 0x4000 ∧ (rd 0x2007 (s 0x3F00)).1 = 0x00 ∧
    (s 0x7EFF).ppu.v.toNat % 0x4000 < 0x3F00 ∧ 0x3F00 ≤ (s 0x7FFF).ppu.v.toNat % 0x4000 := by decide

theorem test_witness_ScrollPorts :
    base.ppu.w = false ∧ (withPpu (fun p => { p with w := true }) base).ppu.w = true := by decide

/-- The last value of every field, and the two coarse Y values that wrap. -/
theorem test_witness_ScrollCounters :
    let loopy := fun (fineY ntY ntX coarseY coarseX : Nat) =>
      BitVec.ofNat 15 (0x1000 * fineY + 0x800 * ntY + 0x400 * ntX + 0x20 * coarseY + coarseX)
    incX (loopy 7 1 1 31 31) = loopy 7 1 0 31 0 ∧ incY (loopy 7 1 1 29 31) = loopy 0 0 1 0 31 ∧
    incY (loopy 7 1 1 31 31) = loopy 0 1 1 0 31 ∧ incY (loopy 6 1 1 31 31) = loopy 7 1 1 31 31 := by decide

theorem test_witness_TickSchedule :
    let odd := fun l c : Nat => withPpu (fun p => { p with odd := true, frame := 1 }) (at_ l c base)
    ((tick (odd 261 339)).ppu.scanline = 0 ∧ (tick (odd 261 339)).ppu.cycle = 0) ∧
    (tick (at_ 261 339 base)).ppu.cycle = 340 ∧ (tick (at_ 0 340 base)).ppu.scanline = 1 ∧
    ((tick (at_ 261 340 base)).ppu.scanline = 0 ∧ (tick (at_ 261 340 base)).ppu.odd = true) := by decide

/-- The places of the schedule of R485, first and last, with rendering enabled: v after the tick that goes to (l, c). -/
theorem test_witness_TickSchedule_scroll :
    let v := fun l c : Nat => (tick (withPpu (fun p => { p with mask := 0x08, v := 0x0000, t := 0x7FFF }) (at_ l (c - 1) base))).ppu.v
    [v 0 7, v 0 8, v 0 255, v 0 256, v 0 257, v 0 320, v 0 328, v 0 336, v 0 337] =
      [0, 1, 0, 0x1001, 0x041F, 0, 1, 1, 0] ∧
    [v 261 8, v 261 257, v 261 279, v 261 280, v 261 304, v 261 305] = [1, 0x041F, 0, 0x7BE0, 0x7BE0, 0] ∧
    [v 239 256, v 240 256, v 240 257, v 240 280, v 239 280] = [0x1001, 0, 0, 0, 0] := by decide +kernel

/-- The four fetches and the store of the cadence, and the shift, at (0, 1) to (0, 8) and (0, 321). -/
theorem test_witness_TickSchedule_fetch :
    let s := fun c : Nat => { withPpu (fun p => { p with mask := 0x08, v := 0x1003, ctrl := 0x10, ntByte := 0x02, tileData := 0x1, atBits := 0xC, ptLow := 0x80 })
      (at_ 0 (c - 1) base) with vram := [(0x003, 0x41), (0x3C0, 0x08)], chr := [(0x1021, 0x55), (0x1029, 0xAA)] }
    let f := fun c : Nat => (tick (s c)).ppu
    (f 1).ntByte = 0x41 ∧ (f 3).atBits = 0x8 ∧ (f 5).ptLow = 0x55 ∧ (f 7).ptHigh = 0xAA ∧
    (f 8).tileData = 0xDCCCCCDC ∧ (f 2).tileData = 0x10 ∧ (f 321).ntByte = 0x41 ∧ (f 320).tileData = 0x1 ∧
    (f 337).tileData = 0x1 := by decide +kernel

theorem test_witness_FrameLength :
    let s := at_ 0 0 base
    let o := withPpu (fun p => { p with odd := true, frame := 1 }) s
    (s.ppu.cycle = 0 ∧ s.ppu.scanline = 0 ∧ s.ppu.odd = false) ∧
    (o.ppu.cycle = 0 ∧ o.ppu.scanline = 0 ∧ o.ppu.odd = true ∧ o.cfg.oddSkipNeedsRendering = false) ∧
    base.ppu = Ppu.powerOn := by decide

theorem test_witness_NmiDelay :
    let s := withPpu (fun p => { p with ctrl := 0x80 }) (at_ 241 0 base)
    let t := withPpu (fun p => { p with ctrl := 0x80, vblank := true, nmiPrevious := true, nmiDelay := 1 }) (at_ 250 7 base)
    (s.ppu.scanline = 241 ∧ s.ppu.cycle = 0 ∧ s.ppu.ctrl.getLsbD 7 = true ∧ s.ppu.nmiPrevious = false ∧
      (tick s).ppu.nmiDelay = 15) ∧
    (¬(t.ppu.scanline = 241 ∧ t.ppu.cycle = 0) ∧ (tick t).nmiPending = true ∧ (tick t).ppu.nmiDelay = 0) ∧
    (tick (withPpu (fun p => { p with nmiPrevious := true, nmiDelay := 4 }) s)).ppu.nmiDelay = 3 ∧
    (tick (withPpu (fun p => { p with ctrl := 0x00, nmiDelay := 4 }) s)).ppu.nmiDelay = 3 ∧
    (tick (withPpu (fun p => { p with nmiDelay := 4 }) (at_ 261 0 t))).ppu.nmiDelay = 3 := by decide

theorem test_witness_VblankEvents :
    let s := withPpu (fun p => { p with back := [(5, 0x21)], ctrl := 0x80 }) (at_ 241 0 base)
    let t := withPpu (fun p => { p with vblank := true, overflow := true }) (at_ 261 0 base)
    (s.ppu.scanline = 241 ∧ s.ppu.cycle = 0 ∧ (tick s).ppu.front = [(5, 0x21)]) ∧
    (t.ppu.scanline = 261 ∧ t.ppu.cycle = 0 ∧ (tick t).ppu.overflow = false) ∧ (tick (at_ 241 1 t)).ppu.vblank = true := by
  decide

/-- With OAM all zero, line 7 meets all 64 sprites and line 8 none; with 8x16 sprites line 15 is the last. -/
theorem test_witness_SpriteEvaluation :
    let e := fun (l : Nat) (c : Byte) => (evaluateSprites (withPpu (fun p => { p with ctrl := c }) (at_ l 0 base))).ppu
    (e 7 0x00).spriteCount = 8 ∧ (e 7 0x00).overflow = true ∧ (e 8 0x00).spriteCount = 0 ∧ (e 8 0x00).overflow = false ∧
    (e 15 0x20).spriteCount = 8 ∧ (e 16 0x20).spriteCount = 0 := by decide +kernel

/-- The last pixel of a row and the last row of both sprite sizes, flipped and not. -/
theorem test_witness_PatternRows :
    packTile 0xC 0x80 0x01 = 0xDCCCCCCE ∧ packSprite 0x03 0x80 0x01 = 0xDCCCCCCE ∧ packSprite 0x43 0x80 0x01 = 0xECCCCCCD ∧
    spriteAddr 0x08 0x12 0x00 7 = 0x1127 ∧ spriteAddr 0x08 0x12 0x80 7 = 0x1120 ∧
    spriteAddr 0x20 0x13 0x00 15 = 0x1137 ∧ spriteAddr 0x20 0x13 0x80 15 = 0x1120 := by decide

/-- A state with an opaque sprite-zero pixel in front of an opaque background pixel at column 8, both shown. -/
def hitState : State :=
  { at_ 10 9 base with
    palette := [(0x05, 0x21), (0x11, 0x16)]
    ppu := { (at_ 10 9 base).ppu with
      mask := 0x18
      tileData := 0x5000000000000000
      spriteCount := 1
      slots := (Vector.replicate 8 SpriteSlot.zero).setIfInBounds 0 ⟨0x01000000, 0x07, false, 0⟩ } }

theorem test_witness_Pixels :
    hitState.ppu.mask.getLsbD 4 = true ∧ spritePixel 8 hitState = (0x1, 0) ∧ backgroundPixel hitState = 0x5 ∧
    (renderPixel hitState).ppu.back = [(10 * 256 + 8, 0x16)] ∧ (renderPixel hitState).ppu.sprite0Hit = true ∧
    (slotAt 0 hitState).x.toNat ≤ 14 ∧ slotPixel 0 15 hitState = 0 ∧ slotPixel 0 6 hitState = 0 ∧
    spritePixel 9 hitState = (0, 0) ∧ (withPpu (fun p => { p with mask := 0x08 }) hitState).ppu.mask.getLsbD 4 = false := by
  decide

/-- With the sprite behind the background, and with neither opaque. -/
theorem test_witness_Pixels_priority :
    let back := withPpu (fun p => { p with slots := p.slots.setIfInBounds 0 ⟨0x01000000, 0x07, true, 0⟩ }) hitState
    let none0 := withPpu (fun p => { p with slots := Vector.replicate 8 SpriteSlot.zero, tileData := 0 }) hitState
    (renderPixel back).ppu.back = [(10 * 256 + 8, 0x21)] ∧ (renderPixel none0).ppu.back = [] := by decide

theorem test_witness_OamDma :
    answers (busWrite 0x4014 0x00 base) = true ∧ answers (busWrite 0x4014 0x3F base) = true ∧
    answers (busWrite 0x4014 0x40 base) = false ∧ answers (busWrite 0x4014 0x41 base) = false ∧
    answers (busWrite 0x4014 0x5F base) = false ∧ answers (busWrite 0x4014 0x60 base) = true ∧
    answers (busWrite 0x4014 0xFF base) = true := by decide +kernel

/-- The state a CPU access faults in, if it does. -/
def leftIn (r : Res Unit) : Option State :=
  match r with
  | .fault (.unmappedAddress _ _ left) => some left
  | _ => none

/-- A page of 0x40 leaves 33 bytes copied, one of them a button of controller 1, and no stall; a page of 0x41 leaves nothing copied (R474). -/
theorem test_witness_OamDma_stops :
    let s := { withPpu (fun p => { p with oamAddr := 0xF0 }) base with
      pads := ⟨0x01, 0x00, false, 0, 0⟩, cfg := { base.cfg with openBus := 0x40 } }
    (leftIn (busWrite 0x4014 0x40 s)).map (fun t => (t.ppu.oamAddr, Memory.read t.oam 0xF0, Memory.read t.oam 0x06)) =
      some (0x11, 0x40, 0x01) ∧
    (leftIn (busWrite 0x4014 0x40 s)).map (fun t => (t.stall, t.pads.index1, t.pads.index2, t.fault)) =
      some (0, 1, 1, some (.unmappedAddress 0x4021 .read)) ∧
    leftIn (busWrite 0x4014 0x41 s) = some { s with fault := some (.unmappedAddress 0x4100 .read) } := by decide +kernel

/-- A state whose pointers at 0x20 and 0x30 name an address of RAM and an unmapped one; under `nestest`, so that it serves the unofficial opcodes too. -/
def pointers : State := { nes with x := 0x10, y := 0x21, ram := [(0x20, 0x10), (0x21, 0x02), (0x31, 0x40)] }

/-- Operands at the last mapped and the first unmapped addresses, direct, indexed and indirect. -/
theorem test_witness_operands :
    (ReadOp.imm 0x80).mapped pointers = true ∧ (ReadOp.mem (.zp 0xFF)).mapped pointers = true ∧
    (ReadOp.mem (.abs 0x4020)).mapped pointers = true ∧ (ReadOp.mem (.abs 0x4021)).mapped pointers = false ∧
    (ReadOp.mem (.abs 0x5FFF)).mapped pointers = false ∧ (ReadOp.mem (.abs 0x6000)).mapped pointers = true ∧
    (ReadOp.mem (.abx 0x5FEF)).mapped pointers = false ∧ (ReadOp.mem (.abx 0x5FF0)).mapped pointers = true ∧
    (ReadOp.mem (.aby 0x4000)).mapped pointers = false ∧ (ReadOp.mem (.izx 0x10)).mapped pointers = true ∧
    (ReadOp.mem (.izy 0x30)).mapped pointers = false ∧ (ReadOp.mem (.izy 0x20)).mapped pointers = true := by decide

theorem test_witness_Loads :
    documented base = true ∧ (ReadOp.mem (.abs 0x0300)).mapped base = true ∧ (ReadOp.mem (.abs 0x5000)).mapped base = false ∧
    goesOn (exec (.ldaAbs 0x0300) base) = true ∧ goesOn (exec (.ldaAbs 0x5000) base) = false := by decide

theorem test_witness_Stores :
    documented base = true ∧ writeFaults (eaOf (.abs 0x0300) base) base.a = false ∧ unmapped (eaOf (.abs 0x5000) base) = true ∧
    writeFaults (eaOf (.abs 0x4014) base) 0x40 = true ∧ writeFaults (eaOf (.abs 0x4014) base) 0x3F = false ∧
    goesOn (exec (.staAbs 0x0300) base) = true ∧ goesOn (exec (.staAbs 0x5000) base) = false := by decide

/-- The stop at the OAM DMA: a store of page 0x40, and a shift whose result is a page from 0x40 to 0x5F, each with PC and cycles advanced and no stall (R474). -/
theorem test_witness_dma_stops :
    let s : State := { nes with a := 0x40, x := 0xFF, cfg := { nes.cfg with openBus := 0xA0 } }
    let left := fun i : Instr => (leftBy (exec i s)).map fun t => (t.pc, t.cycles.toNat, t.stall, t.p.c)
    let record := fun i : Instr => (leftBy (exec i s)).bind State.fault
    ((eaOf (.abs 0x4014) s).toNat = 0x4014 ∧ dmaFaults s.a = true ∧ dmaFaults (s.a &&& s.x) = true ∧
      dmaFaults 0x3F = false ∧ dmaFaults 0x5F = true ∧ dmaFaults 0x60 = false ∧ readValue 0x4014 s = 0xA0) ∧
    (left (.staAbs 0x4014) = some (0xC003, 11, 0, false) ∧ left (.saxAbs 0x4014) = some (0xC003, 11, 0, false) ∧
      left (.aslAbs 0x4014) = some (0xC003, 13, 0, true) ∧ left (.sreAbs 0x4014) = some (0xC003, 13, 0, false)) ∧
    record (.aslAbs 0x4014) = some (.unmappedAddress 0x4021 .read) ∧
    record (.sreAbs 0x4014) = some (.unmappedAddress 0x5000 .read) := by decide +kernel

theorem test_witness_RegisterInstructions :
    documented base = true ∧ goesOn (exec .tax base) = true ∧ goesOn (exec .txs base) = true := by decide

theorem test_witness_AddAndSubtract :
    documented base = true ∧ (ReadOp.imm 0xFF).mapped base = true ∧ (ReadOp.mem (.zpx 0xFF)).mapped base = true ∧
    (ReadOp.mem (.abx 0x5000)).mapped base = false ∧ goesOn (exec (.adcImm 0xFF) base) = true ∧
    goesOn (exec (.sbcAbx 0x5000) base) = false := by decide

theorem test_witness_LogicAndBitTest :
    documented base = true ∧ (ReadOp.mem (.zp 0xFF)).mapped base = true ∧ (ReadOp.mem (.abs 0x5FFF)).mapped base = false ∧
    goesOn (exec (.bitZp 0xFF) base) = true ∧ goesOn (exec (.bitAbs 0x5FFF) base) = false := by decide

theorem test_witness_Compares :
    documented base = true ∧ (ReadOp.imm 0x00).mapped base = true ∧ (ReadOp.mem (.abs 0x4021)).mapped base = false ∧
    goesOn (exec (.cmpImm 0x00) base) = true ∧ goesOn (exec (.cpxAbs 0x4021) base) = false := by decide

theorem test_witness_IncrementsAndShifts :
    let m : MemOp := .abs 0x0300
    documented base = true ∧ unmapped (eaOf m base) = false ∧ writeFaults (eaOf m base) 0x01 = false ∧
    unmapped (eaOf (.abs 0x5FFF) base) = true ∧ goesOn (exec (.incAbs 0x0300) base) = true ∧
    goesOn (exec (.incAbs 0x5FFF) base) = false ∧ goesOn (exec .rorAcc base) = true := by decide

/-- A branch taken within the page, one taken to another page, one not taken. -/
theorem test_witness_Branches :
    (step (startFrom base [0x10, 0x7F] {}) |> goesOn) = true ∧ base.p.n = false ∧ base.p.z = false ∧
    (after (startFrom base [0x10, 0x7F] {})).cycles = 10 ∧ (after (startFrom base [0x10, 0x80] {})).cycles = 11 ∧
    (after (startFrom base [0xF0, 0x80] {})).cycles = 9 := by decide

/-- A pointer in RAM; an unmapped one; one whose second byte alone is unmapped. -/
theorem test_witness_JumpsAndSubroutines :
    let second := fun w : Addr => BitVec.ofNat 16 (256 * (w.toNat / 256) + (w.toNat + 1) % 256)
    (unmapped 0x02FF = false ∧ unmapped (second 0x02FF) = false) ∧ unmapped 0x5FFF = true ∧
    (unmapped 0x4020 = false ∧ unmapped (second 0x4020) = true) ∧ goesOn (exec (.jmpInd 0x02FF) base) = true ∧
    goesOn (exec (.jmpInd 0x4020) base) = false := by decide

theorem test_witness_FlagInstructions :
    documented base = true ∧ goesOn (exec .clc base) = true ∧ goesOn (exec .nop base) = true := by decide

theorem test_witness_UnofficialReadsAndStores :
    unofficialOn nes = true ∧ (ReadOp.mem (.abs 0x2002)).mapped nes = true ∧ (ReadOp.mem (.abs 0x5000)).mapped nes = false ∧
    writeFaults (eaOf (.abs 0x0300) nes) (nes.a &&& nes.x) = false ∧ goesOn (exec (.nop0C 0x2002) nes) = true ∧
    goesOn (exec (.laxAbs 0x5000) nes) = false ∧ goesOn (exec (.saxAbs 0x0300) nes) = true := by decide

theorem test_witness_UnofficialModify :
    unofficialOn nes = true ∧ unmapped (eaOf (.abs 0x0300) nes) = false ∧ writeFaults (eaOf (.abs 0x0300) nes) 0xFF = false ∧
    unmapped (eaOf (.abs 0x5000) nes) = true ∧ goesOn (exec (.dcpAbs 0x0300) nes) = true ∧
    goesOn (exec (.rraAbs 0x5000) nes) = false := by decide

/-- A store writes no register and no flag; a load writes A, Z and N only. -/
theorem test_witness_RegisterFrame :
    let i : Instr := .staZp 0x10
    let j : Instr := .ldaImm 0x80
    goesOn (exec i base) = true ∧ i.writesA = false ∧ i.writesX = false ∧ i.writesY = false ∧ i.writesSP = false ∧
    i.writesC = false ∧ i.writesZ = false ∧ i.writesN = false ∧ i.writesV = false ∧ i.writesI = false ∧
    i.writesD = false ∧ i.forcesBU = false ∧ goesOn (exec j base) = true ∧ j.writesA = true ∧ j.writesC = false := by
  decide

/-- A store to RAM touches its own byte and no other; a store to PPUDATA touches the byte v names. -/
theorem test_witness_MemoryFrame :
    goesOn (exec (.staZp 0x10) base) = true ∧ touches (.staZp 0x10) base (.ram 0x11) = false ∧
    touches (.staZp 0x10) base (.ram 0x10) = true ∧ touches (.staAbs 0x2007) base (.oam 0) = false ∧
    touches (.staAbs 0x2007) (withPpu (fun p => { p with v := 0x2000 }) base) (.vram 0) = true ∧
    touches .brk base (.ram 0x1FB) = true ∧ touches .brk base (.ram 0x1FA) = false := by decide

theorem test_witness_DeviceFrame :
    goesOn (exec (.staZp 0x10) base) = true ∧ dataAddresses (.staZp 0x10) base = [0x0010] ∧
    dataAddresses (.jmpInd 0x02FF) base = [0x02FF, 0x0200] ∧ dataAddresses .brk base = [] := by decide

/-- A state other than the reset state that meets the memory invariant and has a next state. -/
theorem test_witness_MemoryInvariant :
    let s : State := { uxrom with a := 0x05, pc := 0x0010, ram := [(0x10, 0x8D), (0x12, 0x80), (0x7FF, 0x02)] }
    MemoryInv s ∧ goesOn (step s) = true ∧ (after s).map.prgWin = [1, 3] := by
  unfold MemoryInv MapInv
  decide

theorem test_witness_StatusInvariant : StatusInv base ∧ goesOn (step base) = true := by
  unfold StatusInv
  decide

/-- In the middle of a visible line, with an NMI on its way and a controller half read. -/
theorem test_witness_PpuInvariant :
    let s : State := { withPpu (fun p => { p with ctrl := 0x80, vblank := true, nmiPrevious := true, nmiDelay := 7 })
      (at_ 250 17 base) with pads := ⟨0x81, 0x00, false, 4, 8⟩ }
    (PpuInv s ∧ PadInv s) ∧ goesOn (step s) = true := by
  unfold PpuInv PadInv
  decide

end Sys2Proof.Tests
end

section
/-! SUPPORT. What an instruction can do, said once: `exec_runs` takes every instruction apart into updates of the CPU's own registers, bus reads and bus writes (spec/40_step_addressing.md R201, R221). Every invariant of a step is derived from it. -/

namespace Sys2Proof

/-- The CPU registers and flags an instruction may write; B and U are only ever forced (R36). -/
structure WriteSet where
  a : Bool := false
  x : Bool := false
  y : Bool := false
  sp : Bool := false
  n : Bool := false
  v : Bool := false
  d : Bool := false
  i : Bool := false
  z : Bool := false
  c : Bool := false
  forcesBU : Bool := false

/-- The registers and flags that R31 and R34 to R38 let an instruction write. -/
def Instr.writeSet (i : Instr) : WriteSet where
  a := i.writesA
  x := i.writesX
  y := i.writesY
  sp := i.writesSP
  n := i.writesN
  v := i.writesV
  d := i.writesD
  i := i.writesI
  z := i.writesZ
  c := i.writesC
  forcesBU := i.forcesBU

/-- The state `s` with PC, the cycle count and the registers and flags of the set taken from `t`, and with B and U forced if the set says so. -/
def WriteSet.update (w : WriteSet) (s t : Machine.State) : Machine.State :=
  { s with
    a := bif w.a then t.a else s.a
    x := bif w.x then t.x else s.x
    y := bif w.y then t.y else s.y
    sp := bif w.sp then t.sp else s.sp
    pc := t.pc
    cycles := t.cycles
    p :=
      { n := bif w.n then t.p.n else s.p.n
        v := bif w.v then t.p.v else s.p.v
        u := bif w.forcesBU then true else s.p.u
        b := bif w.forcesBU then false else s.p.b
        d := bif w.d then t.p.d else s.p.d
        i := bif w.i then t.p.i else s.p.i
        z := bif w.z then t.p.z else s.p.z
        c := bif w.c then t.p.c else s.p.c } }

/-- `t` differs from `s` in PC, the cycle count and what the set names only. -/
def WriteSet.Updates (w : WriteSet) (s t : Machine.State) : Prop := t = w.update s t

end Sys2Proof

namespace Sys2Proof.Machine

/-! Taking accesses apart. -/

theorem Res.finish_next {α : Type} {r : Res α} {f : α → State → Outcome} {t : State} (h : r.finish f = .next t) :
    ∃ v u, r = .ok v u ∧ f v u = .next t := by
  cases r with
  | ok v u => exact ⟨v, u, rfl, h⟩
  | fault e => cases h

theorem Res.andThen_ok {α β : Type} {r : Res α} {f : α → State → Res β} {b : β} {t : State}
    (h : r.andThen f = .ok b t) : ∃ v u, r = .ok v u ∧ f v u = .ok b t := by
  cases r with
  | ok v u => exact ⟨v, u, rfl, h⟩
  | fault e => cases h

/-- A read that answers is the read in closed form. -/
theorem busRead_ok_state {addr : Addr} {s t : State} {v : Byte} (h : busRead addr s = .ok v t) :
    t = readEffect addr s := by
  cases hu : unmapped addr with
  | false =>
    rw [busRead_mapped _ _ hu] at h
    cases h
    rfl
  | true =>
    rw [busRead_unmapped _ _ hu] at h
    cases h

/-- The bytes that an OAM DMA that completes has copied. -/
theorem oamCopy_ok_state {page : Byte} {k i : Nat} {s t : State} (h : oamCopy page k i s = .ok () t) :
    t = (List.range' i k).foldl (dmaByte page) s := by
  induction k generalizing i s with
  | zero => cases h; rfl
  | succ k ih =>
    cases hu : unmapped (word16 page (BitVec.ofNat 8 i)) with
    | false =>
      rw [oamCopy, busRead_mapped _ _ hu] at h
      exact ih h
    | true =>
      rw [oamCopy, busRead_unmapped _ _ hu] at h
      cases h

/-- Copying bytes to OAM leaves the cycle count and the stall. -/
theorem dmaByte_foldl_cycles_stall (page : Byte) (l : List Nat) (s : State) :
    (l.foldl (dmaByte page) s).cycles = s.cycles ∧ (l.foldl (dmaByte page) s).stall = s.stall := by
  induction l generalizing s with
  | nil => exact ⟨rfl, rfl⟩
  | cons i l ih => simp [ih, dmaByte]

theorem oamDma_ok_state {page : Byte} {s t : State} (h : oamDma page s = .ok () t) : t = dmaEffect page s := by
  obtain ⟨_, u, hcopy, hend⟩ := Res.andThen_ok h
  cases hend
  obtain rfl := oamCopy_ok_state hcopy
  obtain ⟨hcycles, hstall⟩ := dmaByte_foldl_cycles_stall page (List.range' 0 256) s
  rw [dmaEffect, List.range_eq_range', hcycles, hstall]

/-- A write that answers is the write in closed form. -/
theorem busWrite_ok_state {addr : Addr} {v : Byte} {s t : State} (h : busWrite addr v s = .ok () t) :
    t = writeEffect addr v s := by
  cases hf : writeFaults addr v with
  | false =>
    rw [busWrite_ok _ _ _ hf] at h
    cases h
    rfl
  | true =>
    cases hu : unmapped addr with
    | true =>
      rw [busWrite_unmapped _ _ _ hu] at h
      cases h
    | false =>
      have hdma : addr.toNat = 0x4014 := by simp_all [writeFaults]
      have hwrite : busWrite addr v s = oamDma v s := by simp [busWrite, hdma]
      rw [hwrite] at h
      rw [oamDma_ok_state h]
      simp [writeEffect, inPpuWindow, hdma]

/-! Runs of an instruction. -/

/-- `t` is reached from `s` by bus accesses, by moving PC and the cycle count, and by writing registers of the set. -/
inductive Runs (w : WriteSet) (s : State) : State → Prop
  | start : Runs w s s
  | move {t : State} (pc : Addr) (cycles : BitVec 64) : Runs w s t → Runs w s { t with pc := pc, cycles := cycles }
  | own {t u : State} : Runs w s t → w.Updates t u → Runs w s u
  | read {t : State} (addr : Addr) : Runs w s t → Runs w s (readEffect addr t)
  | write {t : State} (addr : Addr) (v : Byte) : Runs w s t → Runs w s (writeEffect addr v t)

theorem Runs.advance {w : WriteSet} {s t : State} (len cyc : Nat) (h : Runs w s t) : Runs w s (advance len cyc t) :=
  h.move _ _

theorem Runs.charge {w : WriteSet} {s t : State} (n : Nat) (h : Runs w s t) : Runs w s (charge n t) := h.move t.pc _

/-- A stack push is a bus write and an update of SP (R15). -/
theorem pushed_eq_writeEffect (v : Byte) (s : State) :
    pushed v s = { writeEffect (stackSlot s.sp) v s with sp := s.sp - 1 } := by
  have hslot := stackSlot_toNat s.sp
  have hsp := s.sp.isLt
  simp only [writeEffect, hslot]
  rw [if_pos (by omega), Nat.mod_eq_of_lt (by omega)]
  rfl

theorem Runs.push {w : WriteSet} {s t : State} (v : Byte) (hsp : w.sp = true) (hbu : w.forcesBU = false)
    (h : Runs w s t) : Runs w s (pushed v t) := by
  rw [pushed_eq_writeEffect]
  exact (h.write (stackSlot t.sp) v).own (by simp [WriteSet.Updates, WriteSet.update, hsp, hbu])

/-! The shapes of instruction. -/

section Shapes

variable {w : WriteSet} {base : Nat} {s t : State}

theorem impliedInstr_runs {f : State → State} (h : impliedInstr base f s = .next t) (hf : ∀ u, w.Updates u (f u)) :
    Runs w s t := by
  cases h
  exact (Runs.start.advance 1 base).own (hf _)

theorem readInstr_runs {o : ReadOp} {f : Byte → State → State} (h : readInstr base o f s = .next t)
    (hf : ∀ m u, w.Updates u (f m u)) : Runs w s t := by
  cases o with
  | imm b =>
    cases h
    exact (Runs.start.advance 2 base).own (hf b _)
  | mem m =>
    obtain ⟨ea, u, hea, h⟩ := Res.finish_next h
    rw [resolve_eq] at hea
    cases hea
    obtain ⟨v, u, hread, h⟩ := Res.finish_next h
    cases h
    rw [busRead_ok_state hread]
    exact ((Runs.start.advance _ _).read _).own (hf v _)

theorem storeInstr_runs {m : MemOp} {value : State → Byte} (h : storeInstr base m value s = .next t) : Runs w s t := by
  obtain ⟨ea, u, hea, h⟩ := Res.finish_next h
  rw [resolve_eq] at hea
  cases hea
  obtain ⟨_, u, hwrite, h⟩ := Res.finish_next h
  cases h
  rw [busWrite_ok_state hwrite]
  exact (Runs.start.advance _ _).write _ _

theorem rmwInstr_runs {m : MemOp} {modify : Byte → Bool → Modified} {after : Byte → State → State}
    (h : rmwInstr base m modify after s = .next t)
    (hmodify : ∀ v u, w.Updates u { u with p := { u.p with c := (modify v u.p.c).c } })
    (hafter : ∀ r u, w.Updates u (after r u)) : Runs w s t := by
  obtain ⟨ea, u, hea, h⟩ := Res.finish_next h
  rw [resolve_eq] at hea
  cases hea
  obtain ⟨v, u, hread, h⟩ := Res.finish_next h
  obtain ⟨_, u', hwrite, h⟩ := Res.finish_next h
  cases h
  rw [busWrite_ok_state hwrite, busRead_ok_state hread]
  exact ((((Runs.start.advance _ _).read _).own (hmodify v _)).write _ _).own (hafter _ _)

theorem branchInstr_runs {cond : Flags → Bool} {off : Byte} (h : branchInstr cond off s = .next t) : Runs w s t := by
  unfold branchInstr at h
  simp only at h
  split at h
  · cases h
    exact (Runs.start.advance 2 2).move _ _
  · cases h
    exact Runs.start.advance 2 2

theorem gated_next {op : Byte} {effect : State → Outcome} (h : gated op effect s = .next t) : effect s = .next t := by
  cases hu : s.cfg.unofficial with
  | nestest => rwa [gated_nestest _ _ _ hu] at h
  | fault =>
    rw [gated_fault _ _ _ hu] at h
    cases h

theorem illegalInstr_ne_next (op : Byte) (s t : State) : illegalInstr op s ≠ .next t := nofun

/-! What each mnemonic writes (R31, R34 to R38). -/

theorem lda_runs {o : ReadOp} (h : lda base o s = .next t) : Runs { a := true, n := true, z := true } s t :=
  readInstr_runs h fun _ _ => rfl

theorem ldx_runs {o : ReadOp} (h : ldx base o s = .next t) : Runs { x := true, n := true, z := true } s t :=
  readInstr_runs h fun _ _ => rfl

theorem ldy_runs {o : ReadOp} (h : ldy base o s = .next t) : Runs { y := true, n := true, z := true } s t :=
  readInstr_runs h fun _ _ => rfl

theorem adc_runs {o : ReadOp} (h : adc base o s = .next t) :
    Runs { a := true, n := true, v := true, z := true, c := true } s t :=
  readInstr_runs h fun _ _ => rfl

theorem sbc_runs {o : ReadOp} (h : sbc base o s = .next t) :
    Runs { a := true, n := true, v := true, z := true, c := true } s t :=
  readInstr_runs h fun _ _ => rfl

theorem andA_runs {o : ReadOp} (h : andA base o s = .next t) : Runs { a := true, n := true, z := true } s t :=
  readInstr_runs h fun _ _ => rfl

theorem ora_runs {o : ReadOp} (h : ora base o s = .next t) : Runs { a := true, n := true, z := true } s t :=
  readInstr_runs h fun _ _ => rfl

theorem eor_runs {o : ReadOp} (h : eor base o s = .next t) : Runs { a := true, n := true, z := true } s t :=
  readInstr_runs h fun _ _ => rfl

theorem bitTest_runs {o : ReadOp} (h : bitTest base o s = .next t) : Runs { n := true, v := true, z := true } s t :=
  readInstr_runs h fun _ _ => rfl

theorem cmp_runs {o : ReadOp} (h : cmp base o s = .next t) : Runs { n := true, z := true, c := true } s t :=
  readInstr_runs h fun _ _ => rfl

theorem cpx_runs {o : ReadOp} (h : cpx base o s = .next t) : Runs { n := true, z := true, c := true } s t :=
  readInstr_runs h fun _ _ => rfl

theorem cpy_runs {o : ReadOp} (h : cpy base o s = .next t) : Runs { n := true, z := true, c := true } s t :=
  readInstr_runs h fun _ _ => rfl

theorem nopRead_runs {o : ReadOp} (h : nopRead base o s = .next t) : Runs {} s t :=
  readInstr_runs h fun _ _ => rfl

theorem lax_runs {o : ReadOp} (h : lax base o s = .next t) : Runs { a := true, x := true, n := true, z := true } s t :=
  readInstr_runs h fun _ _ => rfl

theorem sta_runs {m : MemOp} (h : sta base m s = .next t) : Runs {} s t := storeInstr_runs h

theorem stx_runs {m : MemOp} (h : stx base m s = .next t) : Runs {} s t := storeInstr_runs h

theorem sty_runs {m : MemOp} (h : sty base m s = .next t) : Runs {} s t := storeInstr_runs h

theorem sax_runs {m : MemOp} (h : sax base m s = .next t) : Runs {} s t := storeInstr_runs h

theorem inc_runs {m : MemOp} (h : inc base m s = .next t) : Runs { n := true, z := true } s t :=
  rmwInstr_runs h (fun _ _ => rfl) fun _ _ => rfl

theorem dec_runs {m : MemOp} (h : dec base m s = .next t) : Runs { n := true, z := true } s t :=
  rmwInstr_runs h (fun _ _ => rfl) fun _ _ => rfl

theorem dcp_runs {m : MemOp} (h : dcp base m s = .next t) : Runs { n := true, z := true, c := true } s t :=
  rmwInstr_runs h (fun _ _ => rfl) fun _ _ => rfl

theorem isb_runs {m : MemOp} (h : isb base m s = .next t) :
    Runs { a := true, n := true, v := true, z := true, c := true } s t :=
  rmwInstr_runs h (fun _ _ => rfl) fun _ _ => rfl

theorem slo_runs {m : MemOp} (h : slo base m s = .next t) : Runs { a := true, n := true, z := true, c := true } s t :=
  rmwInstr_runs h (fun _ _ => rfl) fun _ _ => rfl

theorem rla_runs {m : MemOp} (h : rla base m s = .next t) : Runs { a := true, n := true, z := true, c := true } s t :=
  rmwInstr_runs h (fun _ _ => rfl) fun _ _ => rfl

theorem sre_runs {m : MemOp} (h : sre base m s = .next t) : Runs { a := true, n := true, z := true, c := true } s t :=
  rmwInstr_runs h (fun _ _ => rfl) fun _ _ => rfl

theorem rra_runs {m : MemOp} (h : rra base m s = .next t) :
    Runs { a := true, n := true, v := true, z := true, c := true } s t :=
  rmwInstr_runs h (fun _ _ => rfl) fun _ _ => rfl

theorem shiftInstr_mem_runs {m : MemOp} {modify : Byte → Bool → Modified}
    (h : shiftInstr base (.mem m) modify s = .next t) : Runs { n := true, z := true, c := true } s t := by
  simp only [shiftInstr] at h
  exact rmwInstr_runs h (fun _ _ => rfl) fun _ _ => rfl

theorem shiftInstr_acc_runs {modify : Byte → Bool → Modified} (h : shiftInstr base .acc modify s = .next t) :
    Runs { a := true, n := true, z := true, c := true } s t := by
  simp only [shiftInstr] at h
  exact impliedInstr_runs h fun _ => rfl

theorem asl_mem_runs {m : MemOp} (h : asl base (.mem m) s = .next t) : Runs { n := true, z := true, c := true } s t :=
  shiftInstr_mem_runs h

theorem asl_acc_runs (h : asl base .acc s = .next t) : Runs { a := true, n := true, z := true, c := true } s t :=
  shiftInstr_acc_runs h

theorem lsr_mem_runs {m : MemOp} (h : lsr base (.mem m) s = .next t) : Runs { n := true, z := true, c := true } s t :=
  shiftInstr_mem_runs h

theorem lsr_acc_runs (h : lsr base .acc s = .next t) : Runs { a := true, n := true, z := true, c := true } s t :=
  shiftInstr_acc_runs h

theorem rol_mem_runs {m : MemOp} (h : rol base (.mem m) s = .next t) : Runs { n := true, z := true, c := true } s t :=
  shiftInstr_mem_runs h

theorem rol_acc_runs (h : rol base .acc s = .next t) : Runs { a := true, n := true, z := true, c := true } s t :=
  shiftInstr_acc_runs h

theorem ror_mem_runs {m : MemOp} (h : ror base (.mem m) s = .next t) : Runs { n := true, z := true, c := true } s t :=
  shiftInstr_mem_runs h

theorem ror_acc_runs (h : ror base .acc s = .next t) : Runs { a := true, n := true, z := true, c := true } s t :=
  shiftInstr_acc_runs h


/-- Taking an interrupt pushes three bytes, sets I and moves PC (R333, R413, R414). -/
theorem Runs.interrupted {u : State} (ret : Addr) (status : Byte) (vector : Nat) (h : Runs { sp := true, i := true } s u) :
    Runs { sp := true, i := true } s (interrupted ret status vector u) :=
  (((h.push _ rfl rfl).push _ rfl rfl).push _ rfl rfl).own rfl

/-! The stack instructions and the jumps. -/

theorem pha_runs (h : execPha s = .next t) : Runs { sp := true } s t := by
  rw [execPha, push_eq] at h
  cases h
  exact (Runs.start.advance 1 3).push _ rfl rfl

theorem php_runs (h : execPhp s = .next t) : Runs { sp := true } s t := by
  rw [execPhp, push_eq] at h
  cases h
  exact (Runs.start.advance 1 3).push _ rfl rfl

theorem pla_runs (h : execPla s = .next t) : Runs { a := true, sp := true, n := true, z := true } s t := by
  rw [execPla, pull_eq] at h
  cases h
  exact (Runs.start.advance 1 4).own rfl

theorem plp_runs (h : execPlp s = .next t) :
    Runs { sp := true, n := true, v := true, d := true, i := true, z := true, c := true, forcesBU := true } s t := by
  rw [execPlp, pull_eq] at h
  cases h
  exact (Runs.start.advance 1 4).own rfl

theorem rti_runs (h : execRti s = .next t) :
    Runs { sp := true, n := true, v := true, d := true, i := true, z := true, c := true, forcesBU := true } s t := by
  rw [execRti, returnFromInterrupt_eq] at h
  cases h
  exact (Runs.start.advance 1 6).own rfl

theorem brk_runs (h : execBrk s = .next t) : Runs { sp := true, i := true } s t := by
  simp only [execBrk] at h
  rw [takeInterrupt_eq _ _ _ _ (by decide) (by decide)] at h
  cases h
  exact (Runs.start.advance 1 7).interrupted _ _ _

theorem jmpAbs_runs {target : Addr} (h : execJmpAbs target s = .next t) : Runs w s t := by
  cases h
  exact Runs.start.move _ _

theorem jmpInd_runs {pointer : Addr} (h : execJmpInd pointer s = .next t) : Runs w s t := by
  obtain ⟨target, u, hptr, h⟩ := Res.finish_next h
  cases h
  obtain ⟨lo, u1, hlo, hptr⟩ := Res.andThen_ok hptr
  obtain ⟨hi, u2, hhi, hptr⟩ := Res.andThen_ok hptr
  cases hptr
  rw [busRead_ok_state hhi, busRead_ok_state hlo]
  exact ((Runs.start.read _).read _).move _ _

theorem jsrAbs_runs {target : Addr} (h : execJsrAbs target s = .next t) : Runs { sp := true } s t := by
  simp only [execJsrAbs] at h
  rw [push16_eq] at h
  cases h
  exact (((Runs.start.advance 3 6).push _ rfl rfl).push _ rfl rfl).move _ _

theorem rts_runs (h : execRts s = .next t) : Runs { sp := true } s t := by
  rw [execRts, pull16_eq] at h
  cases h
  exact (Runs.start.advance 1 6).own rfl

end Shapes

/-- Everything an instruction that answers a next state can do. -/
theorem exec_runs {i : Instr} {s t : State} (h : exec i s = .next t) : Runs i.writeSet s t := by
  cases i
  all_goals simp only [exec] at h
  case ldaIzx | ldaZp | ldaImm | ldaAbs | ldaIzy | ldaZpx | ldaAby | ldaAbx => exact lda_runs h
  case ldxImm | ldxZp | ldxAbs | ldxZpy | ldxAby => exact ldx_runs h
  case ldyImm | ldyZp | ldyAbs | ldyZpx | ldyAbx => exact ldy_runs h
  case staIzx | staZp | staAbs | staIzy | staZpx | staAby | staAbx => exact sta_runs h
  case stxZp | stxAbs | stxZpy => exact stx_runs h
  case styZp | styAbs | styZpx => exact sty_runs h
  case tax | tay | txa | tya | tsx | txs | inx | iny | dex | dey | clc | sec | cli | sei | cld | sed | clv | nop =>
    exact impliedInstr_runs h fun _ => rfl
  case pha => exact pha_runs h
  case php => exact php_runs h
  case pla => exact pla_runs h
  case plp => exact plp_runs h
  case adcIzx | adcZp | adcImm | adcAbs | adcIzy | adcZpx | adcAby | adcAbx => exact adc_runs h
  case sbcIzx | sbcZp | sbcImm | sbcAbs | sbcIzy | sbcZpx | sbcAby | sbcAbx => exact sbc_runs h
  case andIzx | andZp | andImm | andAbs | andIzy | andZpx | andAby | andAbx => exact andA_runs h
  case oraIzx | oraZp | oraImm | oraAbs | oraIzy | oraZpx | oraAby | oraAbx => exact ora_runs h
  case eorIzx | eorZp | eorImm | eorAbs | eorIzy | eorZpx | eorAby | eorAbx => exact eor_runs h
  case bitZp | bitAbs => exact bitTest_runs h
  case cmpIzx | cmpZp | cmpImm | cmpAbs | cmpIzy | cmpZpx | cmpAby | cmpAbx => exact cmp_runs h
  case cpxImm | cpxZp | cpxAbs => exact cpx_runs h
  case cpyImm | cpyZp | cpyAbs => exact cpy_runs h
  case incZp | incAbs | incZpx | incAbx => exact inc_runs h
  case decZp | decAbs | decZpx | decAbx => exact dec_runs h
  case aslZp | aslAbs | aslZpx | aslAbx => exact asl_mem_runs h
  case aslAcc => exact asl_acc_runs h
  case lsrZp | lsrAbs | lsrZpx | lsrAbx => exact lsr_mem_runs h
  case lsrAcc => exact lsr_acc_runs h
  case rolZp | rolAbs | rolZpx | rolAbx => exact rol_mem_runs h
  case rolAcc => exact rol_acc_runs h
  case rorZp | rorAbs | rorZpx | rorAbx => exact ror_mem_runs h
  case rorAcc => exact ror_acc_runs h
  case bpl | bmi | bvc | bvs | bcc | bcs | bne | beq => exact branchInstr_runs h
  case jmpAbs => exact jmpAbs_runs h
  case jmpInd => exact jmpInd_runs h
  case jsrAbs => exact jsrAbs_runs h
  case rts => exact rts_runs h
  case rti => exact rti_runs h
  case brk => exact brk_runs h
  case nop04 | nop0C | nop14 | nop1C | nop34 | nop3C | nop44 | nop54 | nop5C | nop64 | nop74 | nop7C | nop80 |
      nop82 | nop89 | nopC2 | nopD4 | nopDC | nopE2 | nopF4 | nopFC =>
    exact nopRead_runs (gated_next h)
  case nop1A | nop3A | nop5A | nop7A | nopDA | nopFA => exact impliedInstr_runs (gated_next h) fun _ => rfl
  case laxIzx | laxZp | laxAbs | laxIzy | laxZpy | laxAby => exact lax_runs (gated_next h)
  case saxIzx | saxZp | saxAbs | saxZpy => exact sax_runs (gated_next h)
  case sbcImmEB => exact sbc_runs (gated_next h)
  case dcpIzx | dcpZp | dcpAbs | dcpIzy | dcpZpx | dcpAby | dcpAbx => exact dcp_runs (gated_next h)
  case isbIzx | isbZp | isbAbs | isbIzy | isbZpx | isbAby | isbAbx => exact isb_runs (gated_next h)
  case sloIzx | sloZp | sloAbs | sloIzy | sloZpx | sloAby | sloAbx => exact slo_runs (gated_next h)
  case rlaIzx | rlaZp | rlaAbs | rlaIzy | rlaZpx | rlaAby | rlaAbx => exact rla_runs (gated_next h)
  case sreIzx | sreZp | sreAbs | sreIzy | sreZpx | sreAby | sreAbx => exact sre_runs (gated_next h)
  case rraIzx | rraZp | rraAbs | rraIzy | rraZpx | rraAby | rraAbx => exact rra_runs (gated_next h)
  case anc0B | anc2B | alrImm | arrImm | aneImm | lxaImm | sbxImm | shaIzy | shaAby | shyAbx | shxAby | tasAby |
      lasAby | jam02 | jam12 | jam22 | jam32 | jam42 | jam52 | jam62 | jam72 | jam92 | jamB2 | jamD2 | jamF2 =>
    exact absurd h (illegalInstr_ne_next _ _ _)

end Sys2Proof.Machine
end

section
/-! SUPPORT. What a step can do, said once: `step_runs`. A property of states that each elementary operation keeps is kept by every step (`StepKeeps.step`, `TickKeeps.tick`). -/

namespace Sys2Proof.Machine

/-! Properties that a run keeps. -/

/-- A property that every elementary bus access keeps (R101, R102). -/
structure BusKeeps (P : State → Prop) : Prop where
  ppuRegRead : ∀ r s, P s → P (ppuRegRead r s).2
  readPad1 : ∀ s, P s → P (readPad1 s).2
  readPad2 : ∀ s, P s → P (readPad2 s).2
  ramWrite : ∀ k v s, k < 0x800 → P s → P { s with ram := Memory.write s.ram k v }
  ppuRegWrite : ∀ r d s, P s → P (ppuRegWrite r d s)
  oamData : ∀ d s, P s → P (writeOamData d s)
  stall : ∀ n s, P s → P { s with stall := n }
  strobe : ∀ v s, P s → P (strobePads v s)
  mapperWrite : ∀ n v s, n ≤ 0xFFFF → P s → P (mapperCpuWrite n v s)

section

variable {P : State → Prop}

theorem BusKeeps.readEffect (k : BusKeeps P) (addr : Addr) (s : State) (hs : P s) : P (readEffect addr s) := by
  unfold Machine.readEffect
  simp only
  split_ifs
  · exact k.ppuRegRead _ _ hs
  · exact k.readPad1 _ hs
  · exact k.readPad2 _ hs
  · exact hs

theorem BusKeeps.dmaEffect (k : BusKeeps P) (page : Byte) (s : State) (hs : P s) : P (dmaEffect page s) := by
  have copied : ∀ (l : List Nat) (u : State), P u → P (l.foldl (dmaByte page) u) := by
    intro l
    induction l with
    | nil => exact fun _ hu => hu
    | cons i l ih => exact fun u hu => ih _ (k.oamData _ _ (k.readEffect _ _ hu))
  exact k.stall _ _ (copied _ _ hs)

theorem BusKeeps.writeEffect (k : BusKeeps P) (addr : Addr) (v : Byte) (s : State) (hs : P s) :
    P (writeEffect addr v s) := by
  have hn : addr.toNat ≤ 0xFFFF := by have := addr.isLt; omega
  unfold Machine.writeEffect
  simp only
  split_ifs
  · exact k.ramWrite _ _ _ (Nat.mod_lt _ (by decide)) hs
  · exact k.ppuRegWrite _ _ _ hs
  · exact k.dmaEffect _ _ hs
  · exact k.strobe _ _ hs
  · exact hs
  · exact k.mapperWrite _ _ _ hn hs

theorem Runs.keeps {w : WriteSet} {s t : State} (move : ∀ pc cycles u, P u → P { u with pc := pc, cycles := cycles })
    (own : ∀ u v, w.Updates u v → P u → P v) (read : ∀ addr u, P u → P (readEffect addr u))
    (write : ∀ addr v u, P u → P (writeEffect addr v u)) (h : Runs w s t) (hs : P s) : P t := by
  induction h with
  | start => exact hs
  | move pc cycles _ ih => exact move pc cycles _ ih
  | own _ hupd ih => exact own _ _ hupd ih
  | read addr _ ih => exact read addr _ ih
  | write addr v _ ih => exact write addr v _ ih

end

theorem Runs.trans {w : WriteSet} {s t u : State} (h : Runs w s t) (h' : Runs w t u) : Runs w s u :=
  h'.keeps (P := Runs w s) (fun pc cycles _ r => r.move pc cycles) (fun _ _ hupd r => r.own hupd)
    (fun addr _ r => r.read addr) (fun addr v _ r => r.write addr v) h

/-- A field that no bus access and no update within the set changes is as it was before the run. -/
theorem Runs.field {α : Type} {w : WriteSet} {s t : State} (h : Runs w s t) (φ : State → α)
    (own : ∀ u v, φ (w.update u v) = φ u)
    (move : ∀ pc cycles u, φ { u with pc := pc, cycles := cycles } = φ u := by intros; rfl)
    (read : ∀ addr u, φ (readEffect addr u) = φ u := by intros; simp)
    (write : ∀ addr v u, φ (writeEffect addr v u) = φ u := by intros; simp) : φ t = φ s :=
  h.keeps (P := fun u => φ u = φ s) (fun pc cycles u e => (move pc cycles u).trans e)
    (fun u v hupd e => ((congrArg φ hupd).trans (own u v)).trans e)
    (fun addr u e => (read addr u).trans e) (fun addr v u e => (write addr v u).trans e) rfl

/-! A step. -/

/-- A fetch that answers has done bus reads only. -/
theorem fetch_runs {w : WriteSet} {i : Instr} {s t : State} (h : fetch s = .ok i t) : Runs w s t := by
  obtain ⟨op, s1, hop, h⟩ := Res.andThen_ok h
  obtain rfl := busRead_ok_state hop
  have r1 : Runs w s (readEffect s.pc s) := Runs.start.read _
  split at h
  · cases h
  · next row _ =>
    split at h
    · split at h
      · cases h
        exact r1
      · obtain ⟨b, s2, hb, h⟩ := Res.andThen_ok h
        cases h
        rw [busRead_ok_state hb]
        exact r1.read _
      · obtain ⟨lo, s2, hlo, h⟩ := Res.andThen_ok h
        obtain ⟨hi, s3, hhi, h⟩ := Res.andThen_ok h
        cases h
        rw [busRead_ok_state hhi, busRead_ok_state hlo]
        exact (r1.read _).read _
    · cases h

/-- What a step that answers a next state starts from: the state, with one stall cycle less, or with the NMI latch cleared (R200, R415). -/
def StepStart (s u : State) : Prop := u = s ∨ u = { s with stall := s.stall - 1 } ∨ u = { s with nmiPending := false }

theorem instrStep_runs {s t : State} (h : instrStep s = .next t) : ∃ w u n, Runs w s u ∧ t = ticks n u := by
  obtain ⟨i, s1, hfetch, h⟩ := Res.finish_next h
  cases hexec : exec i s1 with
  | next u =>
    rw [hexec] at h
    cases h
    exact ⟨_, u, _, (fetch_runs hfetch).trans (exec_runs hexec), payTicks_eq _ _⟩
  | fault e =>
    rw [hexec] at h
    cases h
  | refused r =>
    rw [hexec] at h
    cases h

theorem entryStep_ok {u t : State} (h : entryStep (.ok () u) = .next t) : t = ticks 21 u := by
  simp only [entryStep, Res.finish, payTicks_eq] at h
  exact (Host.Outcome.next.inj h).symm

/-- Everything a step that answers a next state can do: a run, then ticks (R200). -/
theorem step_runs {s t : State} (h : step s = .next t) :
    ∃ w u v n, StepStart s u ∧ Runs w u v ∧ t = ticks n v := by
  unfold step at h
  split at h
  · cases h
  · unfold liveStep at h
    split_ifs at h
    · cases h
      exact ⟨{}, _, _, 3, .inr (.inl rfl), Runs.start.move s.pc _, payTicks_eq _ _⟩
    · rw [nmiEntry_eq] at h
      exact ⟨_, _, _, 21, .inr (.inr rfl), (Runs.start.interrupted _ _ _).charge 7, entryStep_ok h⟩
    · rw [irqEntry_eq] at h
      exact ⟨_, _, _, 21, .inl rfl, (Runs.start.interrupted _ _ _).charge 7, entryStep_ok h⟩
    · obtain ⟨w, u, n, hrun, htick⟩ := instrStep_runs h
      exact ⟨w, s, u, n, .inl rfl, hrun, htick⟩

/-- A property that every part of a step keeps. -/
structure StepKeeps (P : State → Prop) : Prop extends BusKeeps P where
  own : ∀ w s t, WriteSet.Updates w s t → P s → P t
  nmiPending : ∀ b s, P s → P { s with nmiPending := b }
  tick : ∀ s, P s → P (tick s)

theorem StepKeeps.ticks {P : State → Prop} (k : StepKeeps P) (n : Nat) (s : State) (hs : P s) : P (ticks n s) := by
  induction n generalizing s with
  | zero => exact hs
  | succ n ih => exact ih _ (k.tick _ hs)

/-- What every part of a step keeps, every step keeps. -/
theorem StepKeeps.step {P : State → Prop} (k : StepKeeps P) {s t : State} (h : step s = .next t) (hs : P s) : P t := by
  obtain ⟨w, u, v, n, hstart, hrun, rfl⟩ := step_runs h
  have hu : P u := by
    obtain rfl | rfl | rfl := hstart
    · exact hs
    · exact k.stall _ _ hs
    · exact k.nmiPending _ _ hs
  exact k.ticks n v (hrun.keeps (fun _ _ _ => k.own {} _ _ rfl) (k.own w) k.readEffect k.writeEffect hu)

/-! A tick. -/

/-- A property that every part of a tick keeps (R485). -/
structure TickKeeps (P : State → Prop) : Prop where
  countNmi : ∀ s, P s → P (countNmi s)
  skipToNextFrame : ∀ s, s.ppu.odd = true → P s → P (skipToNextFrame s)
  advancePosition : ∀ s, P s → P (advancePosition s)
  renderPixel : ∀ s, s.ppu.scanline ≤ 239 → 1 ≤ s.ppu.cycle → s.ppu.cycle ≤ 256 → P s → P (renderPixel s)
  fetchStep : ∀ s, P s → P (fetchStep (shiftTile s))
  setV : ∀ f s, P s → P (setV f s)
  spriteStep : ∀ visible s, P s → P (spriteStep visible s)
  setVblank : ∀ s, P s → P (setVblank s)
  clearFlags : ∀ s, P s → P (clearFlags s)

theorem onlyIf_keeps {P : State → Prop} {b : Bool} {f : State → State} {s : State} (hf : b = true → P s → P (f s))
    (hs : P s) : P (onlyIf b f s) := by
  cases b with
  | false => exact hs
  | true => exact hf rfl hs

theorem TickKeeps.renderAt {P : State → Prop} (k : TickKeeps P) (s : State) (hs : P s) :
    P (renderAt s.ppu.cycle s.ppu.scanline s) := by
  have pixel := onlyIf_keeps
    (b := decide (s.ppu.scanline ≤ 239) && decide (1 ≤ s.ppu.cycle) && decide (s.ppu.cycle ≤ 256)) (fun hb => by
      simp only [Bool.and_eq_true, decide_eq_true_eq] at hb
      obtain ⟨⟨hline, hlow⟩, hhigh⟩ := hb
      exact k.renderPixel s hline hlow hhigh) hs
  exact onlyIf_keeps (fun _ => k.spriteStep _ _) (onlyIf_keeps (fun _ => k.setV _ _) (onlyIf_keeps (fun _ => k.setV _ _)
    (onlyIf_keeps (fun _ => k.setV _ _) (onlyIf_keeps (fun _ => k.setV _ _) (onlyIf_keeps (fun _ => k.fetchStep _) pixel)))))

theorem TickKeeps.tick {P : State → Prop} (k : TickKeeps P) (s : State) (hs : P s) : P (tick s) := by
  have hcount := k.countNmi s hs
  unfold Machine.tick
  simp only
  split
  · next hskip =>
    simp only [skipsTick, Bool.and_eq_true, and_assoc] at hskip
    exact k.skipToNextFrame _ hskip.1 hcount
  · exact onlyIf_keeps (fun _ => k.clearFlags _) (onlyIf_keeps (fun _ => k.setVblank _)
      (onlyIf_keeps (fun _ => k.renderAt _) (k.advancePosition _ hcount)))

end Sys2Proof.Machine
end

section
/-! PROOF. What no instruction writes beyond its rule (spec/10_state.md R31, R34 to R38). -/

namespace Sys2Proof.Machine

/-- No bus access moves a button (R65, R585, R586). -/
theorem busKeeps_buttons (buttons1 buttons2 : Byte) :
    BusKeeps fun s => s.pads.buttons1 = buttons1 ∧ s.pads.buttons2 = buttons2 where
  ppuRegRead r s hs := by rw [ppuRegRead_state]; exact hs
  readPad1 _ hs := hs
  readPad2 _ hs := hs
  ramWrite _ _ _ _ hs := hs
  ppuRegWrite r d s hs := by rw [ppuRegWrite_state]; exact hs
  oamData _ _ hs := hs
  stall _ _ hs := hs
  strobe _ _ hs := hs
  mapperWrite n v s hn hs := by rw [mapperCpuWrite_state n v s hn]; exact hs

theorem Runs.buttons {w : WriteSet} {s t : State} (h : Runs w s t) :
    t.pads.buttons1 = s.pads.buttons1 ∧ t.pads.buttons2 = s.pads.buttons2 :=
  have k := busKeeps_buttons s.pads.buttons1 s.pads.buttons2
  h.keeps (fun _ _ _ hu => hu) (fun u v hupd hu => by rw [hupd]; exact hu) k.readEffect k.writeEffect ⟨rfl, rfl⟩

/-- Settles O54: an instruction is a run over its write set, and each item is a field of the state that such a run keeps. -/
theorem registerFrame : Obligations.RegisterFrame := by
  unfold Obligations.RegisterFrame
  intro i s t h
  have run := exec_runs h
  refine ⟨fun hw => run.field State.a ?_, fun hw => run.field State.x ?_, fun hw => run.field State.y ?_,
    fun hw => run.field State.sp ?_, fun hw => run.field (·.p.c) ?_, fun hw => run.field (·.p.z) ?_,
    fun hw => run.field (·.p.n) ?_, fun hw => run.field (·.p.v) ?_, fun hw => run.field (·.p.i) ?_,
    fun hw => run.field (·.p.d) ?_, fun hw => ⟨run.field (·.p.b) ?_, run.field (·.p.u) ?_⟩,
    run.field State.nmiPending fun _ _ => rfl, run.field State.irq fun _ _ => rfl,
    run.field State.fault fun _ _ => rfl, run.field State.prgRom fun _ _ => rfl, run.field State.mirror fun _ _ => rfl,
    run.field State.cart fun _ _ => rfl, run.field State.cfg fun _ _ => rfl, run.buttons⟩
  all_goals simp [WriteSet.update, Instr.writeSet, hw]

end Sys2Proof.Machine
end

section
/-! PROOF. P.B reads 0 and P.U reads 1 after every step (spec/10_state.md R36, R37). -/

namespace Sys2Proof.Machine

/-- Every part of a step keeps B at 0 and U at 1: only the CPU's own updates write P, and they leave B and U or force them. -/
theorem stepKeeps_statusInv : StepKeeps StatusInv where
  ppuRegRead r s hs := by rw [ppuRegRead_state]; exact hs
  readPad1 _ hs := hs
  readPad2 _ hs := hs
  ramWrite _ _ _ _ hs := hs
  ppuRegWrite r d s hs := by rw [ppuRegWrite_state]; exact hs
  oamData _ _ hs := hs
  stall _ _ hs := hs
  strobe _ _ hs := hs
  mapperWrite n v s hn hs := by rw [mapperCpuWrite_state n v s hn]; exact hs
  own w s t hupd hs := by
    obtain ⟨hb, hu⟩ := hs
    rw [hupd]
    cases hw : w.forcesBU <;> simp [StatusInv, WriteSet.update, hw, hb, hu]
  nmiPending _ _ hs := hs
  tick s hs := by rw [tick_state]; exact hs

/-- Settles O58: the invariant is one that every part of a step keeps. -/
theorem statusInvariant : Obligations.StatusInvariant := by
  unfold Obligations.StatusInvariant
  intro s t hs h
  exact stepKeeps_statusInv.step h hs

end Sys2Proof.Machine
end

section
/-! PROOF. The PPU position, the frame parity, the NMI condition and the controller indices stay legal (spec/10_state.md R50, R59 to R61, R65; spec/61_ppu.md R486, R504). -/

namespace Sys2Proof.Machine

/-! The controllers. -/

theorem padNext_le (strobe : Bool) (index : Nat) : padNext strobe index ≤ 8 := by
  unfold padNext
  split
  · exact Nat.zero_le 8
  · exact Nat.min_le_right _ _

theorem padNext_strobe {strobe : Bool} (h : strobe = true) (index : Nat) : padNext strobe index = 0 := if_pos h

theorem padInv_readPad1 {s : State} (hs : PadInv s) : PadInv (readPad1 s).2 := by
  obtain ⟨_, h2, hstrobe⟩ := hs
  exact ⟨padNext_le _ _, h2, fun h => ⟨padNext_strobe h _, (hstrobe h).2⟩⟩

theorem padInv_readPad2 {s : State} (hs : PadInv s) : PadInv (readPad2 s).2 := by
  obtain ⟨h1, _, hstrobe⟩ := hs
  exact ⟨h1, padNext_le _ _, fun h => ⟨(hstrobe h).1, padNext_strobe h _⟩⟩

theorem padInv_strobePads (v : Byte) {s : State} (hs : PadInv s) : PadInv (strobePads v s) := by
  obtain ⟨h1, h2, _⟩ := hs
  have cleared_le : ∀ n ≤ 8, (if v.getLsbD 0 then 0 else n) ≤ 8 := fun n hn => by split <;> omega
  exact ⟨cleared_le _ h1, cleared_le _ h2, fun hon => ⟨if_pos hon, if_pos hon⟩⟩

theorem stepKeeps_padInv : StepKeeps PadInv where
  ppuRegRead r s hs := by rw [ppuRegRead_state]; exact hs
  readPad1 _ hs := padInv_readPad1 hs
  readPad2 _ hs := padInv_readPad2 hs
  ramWrite _ _ _ _ hs := hs
  ppuRegWrite r d s hs := by rw [ppuRegWrite_state]; exact hs
  oamData _ _ hs := hs
  stall _ _ hs := hs
  strobe v _ hs := padInv_strobePads v hs
  mapperWrite n v s hn hs := by rw [mapperCpuWrite_state n v s hn]; exact hs
  own w s t hupd hs := by rw [hupd]; exact hs
  nmiPending _ _ hs := hs
  tick s hs := by rw [tick_state]; exact hs

/-! The PPU. -/

/-- `PpuInv` without the NMI condition: what `nmiChange` needs to establish all of it. -/
def LineInv (s : State) : Prop :=
  s.ppu.cycle ≤ 340 ∧ s.ppu.scanline ≤ 261 ∧ s.ppu.odd = s.ppu.frame.getLsbD 0 ∧
    s.ppu.nmiDelay ≤ s.cfg.nmiDelayTicks ∧ s.ppu.atBits &&& 3 = 0 ∧ s.ppu.spriteCount ≤ 8

/-- `nmi_previous` is the NMI condition (R504). -/
def NmiSettled (s : State) : Prop := s.ppu.nmiPrevious = (s.ppu.ctrl.getLsbD 7 && s.ppu.vblank)

theorem ppuInv_iff (s : State) : PpuInv s ↔ LineInv s ∧ NmiSettled s := by
  unfold PpuInv LineInv NmiSettled
  tauto

theorem ppuInv_nmiChange {s : State} (hs : LineInv s) : PpuInv (nmiChange s) := by
  obtain ⟨hcycle, hline, hodd, hdelay, hat, hcount⟩ := hs
  refine (ppuInv_iff _).2 ⟨⟨hcycle, hline, hodd, ?_, hat, hcount⟩, rfl⟩
  show (if _ then _ else _) ≤ _
  split
  · exact Nat.le_refl _
  · exact hdelay

theorem ppuInv_readStatus {s : State} (hs : PpuInv s) : PpuInv (readStatus s).2 :=
  ppuInv_nmiChange (s := { s with ppu := { s.ppu with vblank := false } }) ((ppuInv_iff s).1 hs).1

theorem ppuInv_ppuRegRead (r : Nat) {s : State} (hs : PpuInv s) : PpuInv (ppuRegRead r s).2 := by
  unfold ppuRegRead
  split
  · exact ppuInv_readStatus hs
  · exact hs
  · simp only [readPpuData, observeRead_eq]
    exact hs
  · exact hs

/-- The PPU bus is no part of the PPU's own items. -/
theorem ppuWrite_ppu_cfg (addr : Addr) (v : Byte) (s : State) :
    (ppuWrite addr v s).ppu = s.ppu ∧ (ppuWrite addr v s).cfg = s.cfg := by
  unfold ppuWrite mapperPpuWrite
  simp only
  split_ifs <;> exact ⟨rfl, rfl⟩

theorem ppuInv_writePpuData (d : Byte) {s : State} (hs : PpuInv s) : PpuInv (writePpuData d s) := by
  obtain ⟨hppu, hcfg⟩ := ppuWrite_ppu_cfg (BitVec.ofNat 16 (s.ppu.v.toNat % 0x4000)) d s
  simp only [writePpuData, observePpu_eq]
  unfold PpuInv incrementV
  rw [hppu, hcfg]
  exact hs

theorem ppuInv_ppuRegWrite (r : Nat) (d : Byte) {s : State} (hs : PpuInv s) : PpuInv (ppuRegWrite r d s) := by
  unfold ppuRegWrite
  simp only
  split
  · exact ppuInv_nmiChange ((ppuInv_iff s).1 hs).1
  · exact hs
  · exact hs
  · exact hs
  · unfold writeScroll
    split <;> exact hs
  · unfold writePpuAddr
    split <;> exact hs
  · exact ppuInv_writePpuData d hs
  · exact hs

/-! The parts of a tick. -/

theorem ppuInv_countNmi {s : State} (hs : PpuInv s) : PpuInv (countNmi s) := by
  obtain ⟨hcycle, hline, hodd, hnmi, hdelay, hat, hcount⟩ := hs
  rw [countNmi_eq]
  exact ⟨hcycle, hline, hodd, hnmi, Nat.le_trans (Nat.sub_le _ _) hdelay, hat, hcount⟩

/-- The next frame has the other parity. -/
theorem getLsbD_zero_add_one (f : BitVec 64) : (f + 1).getLsbD 0 = !f.getLsbD 0 := by
  simp only [BitVec.getLsbD, Nat.testBit_zero, BitVec.toNat_add, show (1 : BitVec 64).toNat = 1 from rfl]
  rw [← decide_not]
  congr 1
  apply propext
  omega

theorem ppuInv_skipToNextFrame {s : State} (hskip : s.ppu.odd = true) (hs : PpuInv s) : PpuInv (skipToNextFrame s) := by
  obtain ⟨_, _, hodd, hnmi, hdelay, hat, hcount⟩ := hs
  refine ⟨Nat.zero_le _, Nat.zero_le _, ?_, hnmi, hdelay, hat, hcount⟩
  show false = (s.ppu.frame + 1).getLsbD 0
  rw [getLsbD_zero_add_one, ← hodd, hskip]
  rfl

theorem ppuInv_advancePosition {s : State} (hs : PpuInv s) : PpuInv (advancePosition s) := by
  obtain ⟨hcycle, hline, hodd, hnmi, hdelay, hat, hcount⟩ := hs
  unfold advancePosition
  split_ifs with hlast hframe
  · refine ⟨Nat.zero_le _, Nat.zero_le _, ?_, hnmi, hdelay, hat, hcount⟩
    show (!s.ppu.odd) = (s.ppu.frame + 1).getLsbD 0
    rw [getLsbD_zero_add_one, hodd]
  · exact ⟨Nat.zero_le _, Nat.le_of_not_gt hframe, hodd, hnmi, hdelay, hat, hcount⟩
  · exact ⟨Nat.le_of_not_gt hlast, hline, hodd, hnmi, hdelay, hat, hcount⟩

/-- The attribute selector times 4 is a multiple of 4 (R60, R481). -/
theorem attribute_bits_and_three (b : Byte) : ((b &&& 0x03#8) <<< 2).setWidth 4 &&& 3#4 = 0 := by
  apply BitVec.eq_of_getLsbD_eq
  intro i hi
  interval_cases i <;> simp

theorem ppuInv_fetchAttribute {s : State} (hs : PpuInv s) : PpuInv (fetchAttribute s) := by
  obtain ⟨hcycle, hline, hodd, hnmi, hdelay, _, hcount⟩ := hs
  exact ⟨hcycle, hline, hodd, hnmi, hdelay, attribute_bits_and_three _, hcount⟩

theorem ppuInv_fetchStep {s : State} (hs : PpuInv s) : PpuInv (fetchStep s) := by
  rw [fetchStep_eq]
  split
  · exact hs
  · exact ppuInv_fetchAttribute hs
  · exact hs
  · exact hs
  · exact hs
  · exact hs

theorem ppuInv_spriteStep (visible : Bool) {s : State} (hs : PpuInv s) : PpuInv (spriteStep visible s) := by
  obtain ⟨hcycle, hline, hodd, hnmi, hdelay, hat, _⟩ := hs
  cases visible with
  | false => exact ⟨hcycle, hline, hodd, hnmi, hdelay, hat, Nat.zero_le _⟩
  | true =>
    have hcount : (evaluateSprites s).ppu.spriteCount ≤ 8 := Nat.min_le_right _ _
    show PpuInv (evaluateSprites s)
    rw [evaluateSprites_state]
    exact ⟨hcycle, hline, hodd, hnmi, hdelay, hat, hcount⟩

theorem tickKeeps_ppuInv : TickKeeps PpuInv where
  countNmi _ hs := ppuInv_countNmi hs
  skipToNextFrame _ hskip hs := ppuInv_skipToNextFrame hskip hs
  advancePosition _ hs := ppuInv_advancePosition hs
  renderPixel _ _ _ _ hs := hs
  fetchStep s hs := ppuInv_fetchStep (s := shiftTile s) hs
  setV _ _ hs := hs
  spriteStep visible _ hs := ppuInv_spriteStep visible hs
  setVblank s hs := ppuInv_nmiChange ((ppuInv_iff s).1 hs).1
  clearFlags s hs := ppuInv_nmiChange (s := { s with ppu := { s.ppu with vblank := false } }) ((ppuInv_iff s).1 hs).1

theorem stepKeeps_ppuInv : StepKeeps PpuInv where
  ppuRegRead r _ hs := ppuInv_ppuRegRead r hs
  readPad1 _ hs := hs
  readPad2 _ hs := hs
  ramWrite _ _ _ _ hs := hs
  ppuRegWrite r d _ hs := ppuInv_ppuRegWrite r d hs
  oamData _ _ hs := hs
  stall _ _ hs := hs
  strobe _ _ hs := hs
  mapperWrite n v s hn hs := by rw [mapperCpuWrite_state n v s hn]; exact hs
  own w s t hupd hs := by rw [hupd]; exact hs
  nmiPending _ _ hs := hs
  tick := tickKeeps_ppuInv.tick

/-- Settles O59: both invariants are ones that every part of a step keeps. -/
theorem ppuInvariant : Obligations.PpuInvariant := by
  unfold Obligations.PpuInvariant
  rintro s t ⟨hppu, hpads⟩ h
  exact ⟨stepKeeps_ppuInv.step h hppu, stepKeeps_padInv.step h hpads⟩

end Sys2Proof.Machine
end

section
/-! PROOF. The memories stay canonical and within their sizes, and the bank windows legal (spec/10_state.md R44 to R49, R62; spec/62_mapper_devices.md R550, R569). -/

namespace Sys2Proof.Machine

/-! Writing within a size. -/

theorem Memory.fits_write {w : Nat} {size : Nat} {m : Store w} {a : Nat} (v : BitVec w) (ha : a < size)
    (h : Memory.fits size m = true) : Memory.fits size (Memory.write m a v) = true := by
  simp only [Memory.fits, Bool.and_eq_true] at h ⊢
  exact ⟨Memory.wf_write m a v h.1, Memory.below_write size m a v ha h.2⟩

theorem mirrorSlot_le (m : MirrorMode) (slot : Nat) : mirrorSlot m slot ≤ 3 := by
  cases m <;> rcases slot with _ | _ | _ | _ | _ <;> simp [mirrorSlot]

/-- A nametable index lies in the nametable RAM (R111). -/
theorem ntIndex_lt (m : MirrorMode) (n : Nat) : ntIndex m n < 4096 := by
  have hslot := mirrorSlot_le m ((n - 0x2000) % 0x1000 / 0x400)
  unfold ntIndex
  simp only
  omega

/-- A palette index lies in the palette (R112). -/
theorem palIndex_lt (n : Nat) : palIndex n < 32 := by
  unfold palIndex
  simp only
  split <;> omega

/-- Under legal windows a CHR access lies in CHR (R554). -/
theorem chrOffset_lt {s : State} (hs : MapInv s) {n : Nat} (hn : n < 0x2000) : chrOffset n s < s.cart.chrSize := by
  obtain ⟨_, hchrW, _, _, _, hlen, _, _, hchr⟩ := hs
  obtain ⟨b, hb⟩ := List.length_eq_one_iff.1 hlen
  have hbank : b < s.cart.chrSize / 8192 := by simpa [hb, chrBanks, hchrW] using hchr
  simp only [chrOffset, hb, hchrW, Nat.div_eq_of_lt hn, List.getD_cons_zero]
  omega

/-! The bank windows. -/

theorem bankIndex_lt (b : Int) {n : Nat} (hn : 0 < n) : bankIndex b n < n := by
  have hpos := Int.emod_nonneg b (show (n : Int) ≠ 0 by omega)
  have hlt := Int.emod_lt_of_pos b (show (0 : Int) < n by omega)
  unfold bankIndex
  omega

theorem mapInv_setPrgWindow (i : Nat) (b : Int) {s : State} (hs : MapInv s) : MapInv (setPrgWindow i b s) := by
  obtain ⟨hprgW, hchrW, hprgSize, hchrSize, hprgLen, hchrLen, hregs, hprg, hchr⟩ := hs
  refine ⟨hprgW, hchrW, hprgSize, hchrSize, (List.length_set ..).trans hprgLen, hchrLen, hregs, ?_, hchr⟩
  intro c hc
  rcases List.mem_or_eq_of_mem_set hc with hc | rfl
  · exact hprg c hc
  · refine bankIndex_lt b ?_
    rw [prgBanks, hprgW]
    omega

theorem mapInv_setChrWindow (i : Nat) (b : Int) {s : State} (hs : MapInv s) : MapInv (setChrWindow i b s) := by
  obtain ⟨hprgW, hchrW, hprgSize, hchrSize, hprgLen, hchrLen, hregs, hprg, hchr⟩ := hs
  refine ⟨hprgW, hchrW, hprgSize, hchrSize, hprgLen, (List.length_set ..).trans hchrLen, hregs, hprg, ?_⟩
  intro c hc
  rcases List.mem_or_eq_of_mem_set hc with hc | rfl
  · exact hchr c hc
  · refine bankIndex_lt b ?_
    rw [chrBanks, hchrW]
    omega

/-! The accesses. -/

theorem memoryInv_mapperCpuWrite {n : Nat} (v : Byte) {s : State} (hn : n ≤ 0xFFFF) (hs : MemoryInv s) :
    MemoryInv (mapperCpuWrite n v s) := by
  obtain ⟨hmap, hram, hprgRam, hrest⟩ := hs
  rw [mapperCpuWrite_cases n v s hn]
  split
  · exact ⟨hmap, hram, Memory.fits_write v (by omega) hprgRam, hrest⟩
  · split
    · exact ⟨hmap, hram, hprgRam, hrest⟩
    · exact ⟨mapInv_setPrgWindow _ _ hmap, hram, hprgRam, hrest⟩
    · exact ⟨mapInv_setChrWindow _ _ hmap, hram, hprgRam, hrest⟩

theorem memoryInv_ppuWrite (addr : Addr) (v : Byte) {s : State} (hs : MemoryInv s) : MemoryInv (ppuWrite addr v s) := by
  obtain ⟨hmap, hram, hprgRam, hprgRom, hchr, hoam, hpalette, hvram, hframes⟩ := hs
  unfold ppuWrite mapperPpuWrite
  simp only
  split_ifs with hpattern hwritable
  · exact ⟨hmap, hram, hprgRam, hprgRom, Memory.fits_write v (chrOffset_lt hmap hpattern) hchr, hoam, hpalette, hvram,
      hframes⟩
  · exact ⟨hmap, hram, hprgRam, hprgRom, hchr, hoam, hpalette, hvram, hframes⟩
  · exact ⟨hmap, hram, hprgRam, hprgRom, hchr, hoam, hpalette, Memory.fits_write v (ntIndex_lt _ _) hvram, hframes⟩
  · exact ⟨hmap, hram, hprgRam, hprgRom, hchr, hoam, Memory.fits_write v (palIndex_lt _) hpalette, hvram, hframes⟩

theorem memoryInv_writeOamData (d : Byte) {s : State} (hs : MemoryInv s) : MemoryInv (writeOamData d s) := by
  obtain ⟨hmap, hram, hprgRam, hprgRom, hchr, hoam, hrest⟩ := hs
  exact ⟨hmap, hram, hprgRam, hprgRom, hchr, Memory.fits_write d s.ppu.oamAddr.isLt hoam, hrest⟩

theorem memoryInv_ppuRegRead (r : Nat) {s : State} (hs : MemoryInv s) : MemoryInv (ppuRegRead r s).2 := by
  unfold ppuRegRead
  split
  · exact hs
  · exact hs
  · simp only [readPpuData, observeRead_eq]
    exact hs
  · exact hs

theorem memoryInv_ppuRegWrite (r : Nat) (d : Byte) {s : State} (hs : MemoryInv s) : MemoryInv (ppuRegWrite r d s) := by
  unfold ppuRegWrite
  simp only
  split
  · exact hs
  · exact hs
  · exact hs
  · exact memoryInv_writeOamData d (s := { s with ppu := { s.ppu with latch := d } }) hs
  · unfold writeScroll
    split <;> exact hs
  · unfold writePpuAddr
    split <;> exact hs
  · simp only [writePpuData, observePpu_eq]
    exact memoryInv_ppuWrite _ d (s := { s with ppu := { s.ppu with latch := d } }) hs
  · exact hs

/-! The parts of a tick: they write the frame buffers only. -/

/-- A pixel of a visible position lies in the frame buffer (R62, R496). -/
theorem memoryInv_renderPixel {s : State} (hline : s.ppu.scanline ≤ 239) (hlow : 1 ≤ s.ppu.cycle)
    (hhigh : s.ppu.cycle ≤ 256) (hs : MemoryInv s) : MemoryInv (renderPixel s) := by
  obtain ⟨hmap, hram, hprgRam, hprgRom, hchr, hoam, hpalette, hvram, hback, hfront⟩ := hs
  exact ⟨hmap, hram, hprgRam, hprgRom, hchr, hoam, hpalette, hvram, Memory.fits_write _ (by omega) hback, hfront⟩

theorem memoryInv_spriteStep (visible : Bool) {s : State} (hs : MemoryInv s) : MemoryInv (spriteStep visible s) := by
  have kept : ∀ n o q, MemoryInv { s with ppu := { s.ppu with spriteCount := n, overflow := o, slots := q } } :=
    fun _ _ _ => hs
  cases visible with
  | false => exact hs
  | true =>
    show MemoryInv (evaluateSprites s)
    rw [evaluateSprites_state]
    exact kept _ _ _

theorem memoryInv_setVblank {s : State} (hs : MemoryInv s) : MemoryInv (setVblank s) := by
  obtain ⟨hmap, hram, hprgRam, hprgRom, hchr, hoam, hpalette, hvram, hback, _⟩ := hs
  exact ⟨hmap, hram, hprgRam, hprgRom, hchr, hoam, hpalette, hvram, hback, hback⟩

theorem tickKeeps_memoryInv : TickKeeps MemoryInv where
  countNmi s hs := by rw [countNmi_eq]; exact hs
  skipToNextFrame _ _ hs := hs
  advancePosition s hs := by rw [advancePosition_state]; exact hs
  renderPixel _ hline hlow hhigh hs := memoryInv_renderPixel hline hlow hhigh hs
  fetchStep s hs := by rw [fetchStep_eq]; split <;> exact hs
  setV _ _ hs := hs
  spriteStep visible _ hs := memoryInv_spriteStep visible hs
  setVblank _ hs := memoryInv_setVblank hs
  clearFlags _ hs := hs

theorem stepKeeps_memoryInv : StepKeeps MemoryInv where
  ppuRegRead r _ hs := memoryInv_ppuRegRead r hs
  readPad1 _ hs := hs
  readPad2 _ hs := hs
  ramWrite k v s hk hs := by
    obtain ⟨hmap, hram, hrest⟩ := hs
    exact ⟨hmap, Memory.fits_write v hk hram, hrest⟩
  ppuRegWrite r d _ hs := memoryInv_ppuRegWrite r d hs
  oamData d _ hs := memoryInv_writeOamData d hs
  stall _ _ hs := hs
  strobe _ _ hs := hs
  mapperWrite _ v _ hn hs := memoryInv_mapperCpuWrite v hn hs
  own w s t hupd hs := by rw [hupd]; exact hs
  nmiPending _ _ hs := hs
  tick := tickKeeps_memoryInv.tick

/-- Settles O57: the invariant is one that every part of a step keeps. -/
theorem memoryInvariant : Obligations.MemoryInvariant := by
  unfold Obligations.MemoryInvariant
  intro s t hs h
  exact stepKeeps_memoryInv.step h hs

end Sys2Proof.Machine
end

section
/-! PROOF. The CPU bus row by row, work RAM and PPU register mirroring (spec/20_memory.md R101 to R104). -/

namespace Sys2Proof.Machine

/-! The rows of the CPU read router. -/

theorem busRead_ppuReg (addr : Addr) (s : State) (hlow : 0x2000 ≤ addr.toNat) (hhigh : addr.toNat ≤ 0x3FFF) :
    busRead addr s = .ok (ppuRegRead (addr.toNat % 8) s).1 (ppuRegRead (addr.toNat % 8) s).2 := by
  simp only [busRead]
  rw [if_neg (by omega), if_pos (by omega)]

theorem busRead_pad1 (addr : Addr) (s : State) (h : addr.toNat = 0x4016) :
    busRead addr s = .ok (readPad1 s).1 (readPad1 s).2 := by
  simp [busRead, h]

theorem busRead_pad2 (addr : Addr) (s : State) (h : addr.toNat = 0x4017) :
    busRead addr s = .ok (readPad2 s).1 (readPad2 s).2 := by
  simp [busRead, h]

theorem busRead_openBus (addr : Addr) (s : State) (hlow : 0x4000 ≤ addr.toNat) (hhigh : addr.toNat ≤ 0x4020)
    (hpad1 : addr.toNat ≠ 0x4016) (hpad2 : addr.toNat ≠ 0x4017) : busRead addr s = .ok s.cfg.openBus s := by
  simp only [busRead]
  rw [if_neg (by omega), if_neg (by omega), if_neg hpad1, if_neg hpad2, if_pos hhigh, ite_self]

theorem unmapped_iff (addr : Addr) : unmapped addr = true ↔ 0x4021 ≤ addr.toNat ∧ addr.toNat ≤ 0x5FFF := by
  simp [unmapped]

/-! The rows of the CPU write router. -/

theorem busWrite_ppuReg (addr : Addr) (v : Byte) (s : State) (hlow : 0x2000 ≤ addr.toNat)
    (hhigh : addr.toNat ≤ 0x3FFF) : busWrite addr v s = .ok () (ppuRegWrite (addr.toNat % 8) v s) := by
  simp only [busWrite]
  rw [if_neg (by omega), if_pos (by omega)]

theorem busWrite_oamDma (addr : Addr) (v : Byte) (s : State) (h : addr.toNat = 0x4014) :
    busWrite addr v s = oamDma v s := by
  simp [busWrite, h]

theorem busWrite_strobe (addr : Addr) (v : Byte) (s : State) (h : addr.toNat = 0x4016) :
    busWrite addr v s = .ok () (strobePads v s) := by
  simp [busWrite, h]

theorem busWrite_ignored (addr : Addr) (v : Byte) (s : State) (hlow : 0x4000 ≤ addr.toNat)
    (hhigh : addr.toNat ≤ 0x4020) (hdma : addr.toNat ≠ 0x4014) (hstrobe : addr.toNat ≠ 0x4016) :
    busWrite addr v s = .ok () s := by
  simp only [busWrite]
  rw [if_neg (by omega), if_neg (by omega), if_neg hdma, if_neg hstrobe, if_pos hhigh]

theorem busWrite_mapper (addr : Addr) (v : Byte) (s : State) (h : 0x6000 ≤ addr.toNat) :
    busWrite addr v s = .ok () (mapperCpuWrite addr.toNat v s) := by
  simp only [busWrite]
  rw [if_neg (by omega), if_neg (by omega), if_neg (by omega), if_neg (by omega), if_neg (by omega), if_neg (by omega)]

/-! The two tables. -/

/-- Settles O13, row by row. -/
theorem busReadTable : Obligations.BusReadTable := by
  unfold Obligations.BusReadTable
  intro a s
  exact ⟨fun h => busRead_ram a s (by omega), busRead_ppuReg a s, busRead_pad1 a s, busRead_pad2 a s,
    busRead_openBus a s, fun hlow hhigh => busRead_unmapped a s ((unmapped_iff a).2 ⟨hlow, hhigh⟩),
    busRead_mapper a s⟩

/-- Settles O14, row by row. -/
theorem busWriteTable : Obligations.BusWriteTable := by
  unfold Obligations.BusWriteTable
  intro a v s
  exact ⟨fun h => busWrite_ram a v s (by omega), busWrite_ppuReg a v s, busWrite_oamDma a v s, busWrite_strobe a v s,
    busWrite_ignored a v s, fun hlow hhigh => busWrite_unmapped a v s ((unmapped_iff a).2 ⟨hlow, hhigh⟩),
    busWrite_mapper a v s⟩

/-! The mirrorings. -/

/-- Settles O15: both ranges index work RAM modulo its size, and a memory reads what was written. -/
theorem ramMirroring : Obligations.RamMirroring := by
  unfold Obligations.RamMirroring
  intro a b v s ha hb
  have read (u : State) := busRead_ram b u (by omega)
  refine ⟨_, busWrite_ram a v s (by omega), fun heq => ?_, fun hne => ⟨_, read s, ?_⟩⟩
  · rw [read, heq, Memory.read_write_self]
  · rw [read, Memory.read_write_ne _ _ hne.symm]

/-- The register that an address of the mirrored window names (R104). -/
theorem ppuMirror_toNat {k r : Nat} (hk : k ≤ 1023) (hr : r ≤ 7) :
    (BitVec.ofNat 16 (0x2000 + 8 * k + r)).toNat = 0x2000 + 8 * k + r :=
  Nat.mod_eq_of_lt (by omega)

theorem busRead_ppuMirror {k r : Nat} (s : State) (hk : k ≤ 1023) (hr : r ≤ 7) :
    busRead (BitVec.ofNat 16 (0x2000 + 8 * k + r)) s = .ok (ppuRegRead r s).1 (ppuRegRead r s).2 := by
  have haddr := ppuMirror_toNat hk hr
  rw [busRead_ppuReg _ _ (by omega) (by omega), haddr, show (0x2000 + 8 * k + r) % 8 = r by omega]

theorem busWrite_ppuMirror {k r : Nat} (v : Byte) (s : State) (hk : k ≤ 1023) (hr : r ≤ 7) :
    busWrite (BitVec.ofNat 16 (0x2000 + 8 * k + r)) v s = .ok () (ppuRegWrite r v s) := by
  have haddr := ppuMirror_toNat hk hr
  rw [busWrite_ppuReg _ _ _ (by omega) (by omega), haddr, show (0x2000 + 8 * k + r) % 8 = r by omega]

/-- Settles O16: every address of the window is its register. PPUCTRL is write-only, so a read of its mirror 0x2008 answers the I/O latch. -/
theorem ppuRegisterMirroring : Obligations.PpuRegisterMirroring := by
  unfold Obligations.PpuRegisterMirroring
  refine ⟨fun k r v s hk hr => ⟨?_, ?_⟩, fun v s => ⟨ppuRegWrite 0 v s, ?_, ?_⟩⟩
  · rw [busRead_ppuMirror s hk hr]
    exact (busRead_ppuMirror (k := 0) s (Nat.zero_le _) hr).symm
  · rw [busWrite_ppuMirror v s hk hr]
    exact (busWrite_ppuMirror (k := 0) v s (Nat.zero_le _) hr).symm
  · exact busWrite_ppuMirror (k := 0) (r := 0) v s (Nat.zero_le _) (Nat.zero_le _)
  · exact busRead_ppuMirror (k := 1) (r := 0) (ppuRegWrite 0 v s) (by decide) (Nat.zero_le _)

end Sys2Proof.Machine
end

section
/-! PROOF. The PPU address router and the two mirrorings behind it (spec/20_memory.md R110 to R112, spec/62_mapper_devices.md R555). -/

namespace Sys2Proof.Machine

/-- The CHR window of an address and the place in its bank (R554). -/
theorem chrOffset_of_window {n bank : Nat} {s : State} (h : s.map.chrWin[n / s.map.chrW]? = some bank) :
    chrOffset n s = bank * s.map.chrW + n % s.map.chrW := by
  rw [chrOffset, List.getD_eq_getElem?_getD, h, Option.getD_some]

theorem mapperPpuWrite_ram {n : Nat} {v : Byte} {s : State} (h : s.cart.chrIsRam = true) :
    mapperPpuWrite n v s = { s with chr := Memory.write s.chr (chrOffset n s) v } := if_pos h

theorem mapperPpuWrite_rom {n : Nat} {v : Byte} {s : State} (h : s.cart.chrIsRam = false) :
    mapperPpuWrite n v s = s := if_neg (by simp [h])

section

variable {addr : Addr} {s : State}

theorem ppuRead_chr (h : addr.toNat % 0x4000 ≤ 0x1FFF) : ppuRead addr s = mapperPpuRead (addr.toNat % 0x4000) s := by
  rw [ppuRead, if_pos (by omega)]

theorem ppuRead_nametable (hlow : 0x2000 ≤ addr.toNat % 0x4000) (hhigh : addr.toNat % 0x4000 ≤ 0x3EFF) :
    ppuRead addr s = Memory.read s.vram (ntIndex s.mirror (addr.toNat % 0x4000)) := by
  rw [ppuRead, if_neg (by omega), if_pos (by omega)]

theorem ppuRead_palette (h : 0x3F00 ≤ addr.toNat % 0x4000) :
    ppuRead addr s = Memory.read s.palette (palIndex (addr.toNat % 0x4000)) := by
  rw [ppuRead, if_neg (by omega), if_neg (by omega)]

variable {v : Byte}

theorem ppuWrite_chr (h : addr.toNat % 0x4000 ≤ 0x1FFF) :
    ppuWrite addr v s = mapperPpuWrite (addr.toNat % 0x4000) v s := by
  rw [ppuWrite, if_pos (by omega)]

theorem ppuWrite_nametable (hlow : 0x2000 ≤ addr.toNat % 0x4000) (hhigh : addr.toNat % 0x4000 ≤ 0x3EFF) :
    ppuWrite addr v s = { s with vram := Memory.write s.vram (ntIndex s.mirror (addr.toNat % 0x4000)) v } := by
  rw [ppuWrite, if_neg (by omega), if_pos (by omega)]

theorem ppuWrite_palette (h : 0x3F00 ≤ addr.toNat % 0x4000) :
    ppuWrite addr v s = { s with palette := Memory.write s.palette (palIndex (addr.toNat % 0x4000)) v } := by
  rw [ppuWrite, if_neg (by omega), if_neg (by omega)]

end

/-- The mirror table of R111 in arithmetic. -/
theorem mirrorSlot_eq (m : MirrorMode) {slot : Nat} (h : slot < 4) :
    mirrorSlot m slot = match m with
      | .horizontal => slot / 2
      | .vertical => slot % 2
      | .singleLow => 0
      | .singleHigh => 1
      | .fourScreen => slot := by
  interval_cases slot <;> cases m <;> rfl

/-- The palette entries 0x10, 0x14, 0x18 and 0x1C are those 0x10 below (R112). -/
theorem palIndex_eq (n : Nat) : palIndex n = if n % 4 = 0 then n % 16 else n % 32 := by
  simp only [palIndex]
  split <;> split <;> omega

theorem ntIndex_eq (m : MirrorMode) (n : Nat) :
    ntIndex m n = match m with
      | .horizontal => 0x400 * ((n - 0x2000) % 0x1000 / 0x800) + (n - 0x2000) % 0x1000 % 0x400
      | .vertical => (n - 0x2000) % 0x1000 % 0x800
      | .singleLow => (n - 0x2000) % 0x1000 % 0x400
      | .singleHigh => 0x400 + (n - 0x2000) % 0x1000 % 0x400
      | .fourScreen => (n - 0x2000) % 0x1000 := by
  have ho : (n - 0x2000) % 0x1000 < 0x1000 := Nat.mod_lt _ (by decide)
  simp only [ntIndex]
  rw [mirrorSlot_eq m (show (n - 0x2000) % 0x1000 / 0x400 < 4 by omega)]
  cases m <;> simp only <;> omega

/-- Settles O17: the router range by range, then the two index computations. -/
theorem ppuSpace : Obligations.PpuSpace := by
  unfold Obligations.PpuSpace
  refine ⟨fun a v s => ⟨fun h => ⟨ppuRead_chr h, ppuWrite_chr h⟩, fun bank h hbank => ?_, fun h hrom => ?_,
      fun hlow hhigh => ⟨ppuRead_nametable hlow hhigh, ppuWrite_nametable hlow hhigh⟩,
      fun h => ⟨ppuRead_palette h, ppuWrite_palette h⟩⟩,
    fun m n _ _ => ?_, fun n _ _ => palIndex_eq n⟩
  · have hoffset := chrOffset_of_window hbank
    refine ⟨?_, fun hram => ?_⟩
    · rw [ppuRead_chr h, mapperPpuRead, hoffset]
    · rw [ppuWrite_chr h, mapperPpuWrite_ram hram, hoffset]
  · rw [ppuWrite_chr h, mapperPpuWrite_rom hrom]
  · exact ntIndex_eq m n

end Sys2Proof.Machine
end

section
/-! SUPPORT. Which addresses an instruction accesses: `exec_runsOver` takes every instruction apart into the CPU's own updates and bus accesses at its data addresses and in the stack page (spec/40_step_addressing.md R221, spec/00_scope.md R15). -/

namespace Sys2Proof.Machine

/-! Runs over a set of addresses. -/

/-- `t` differs from `s` in the CPU's registers, flags and cycle count only. -/
def CpuOnly (s t : State) : Prop :=
  t = { s with a := t.a, x := t.x, y := t.y, sp := t.sp, pc := t.pc, p := t.p, cycles := t.cycles }

/-- `t` is reached from `s` by updates of the CPU's own items and bus accesses at addresses of the set. -/
inductive RunsOver (A : Addr → Prop) (s : State) : State → Prop
  | start : RunsOver A s s
  | cpu {t u : State} : RunsOver A s t → CpuOnly t u → RunsOver A s u
  | read {t : State} {addr : Addr} : RunsOver A s t → A addr → RunsOver A s (readEffect addr t)
  | write {t : State} {addr : Addr} (v : Byte) : RunsOver A s t → A addr → RunsOver A s (writeEffect addr v t)

/-- A field that the CPU's own updates and the accesses of the set leave is as it was before the run. -/
theorem RunsOver.field {α : Type} {A : Addr → Prop} {s t : State} (h : RunsOver A s t) (φ : State → α)
    (cpu : ∀ u v, CpuOnly u v → φ v = φ u) (read : ∀ addr u, A addr → φ (readEffect addr u) = φ u)
    (write : ∀ addr v u, A addr → φ (writeEffect addr v u) = φ u) : φ t = φ s := by
  induction h with
  | start => rfl
  | cpu _ hcpu ih => exact (cpu _ _ hcpu).trans ih
  | read _ haddr ih => exact (read _ _ haddr).trans ih
  | write v _ haddr ih => exact (write _ v _ haddr).trans ih

/-! The addresses of an instruction. -/

/-- The memory operand of a read instruction, if it has one. -/
def ReadOp.memOp : ReadOp → Option MemOp
  | .imm _ => none
  | .mem m => some m

/-- An operand put together again from its encoded bytes (R153), as `memOpOf` has it. -/
def MemOp.joined : MemOp → MemOp
  | .abs w => .abs (word16 (highByte w) (lowByte w))
  | .abx w => .abx (word16 (highByte w) (lowByte w))
  | .aby w => .aby (word16 (highByte w) (lowByte w))
  | m => m

theorem MemOp.joined_eq (m : MemOp) : m.joined = m := by
  cases m <;> simp only [MemOp.joined, word16_high_low]

/-- The addresses an instruction may access: its data addresses and the stack page (R15, R221). -/
def mayAccess (i : Instr) (s : State) (addr : Addr) : Prop := addr ∈ dataAddresses i s ∨ ∃ sp, addr = stackSlot sp

/-! The shape of each mnemonic with an operand (R221). -/

/-- A read instruction whose effect is the CPU's own. -/
def IsRead (g : Nat → ReadOp → State → Outcome) : Prop :=
  ∃ f, (∀ base o s, g base o s = readInstr base o f s) ∧ ∀ v u, CpuOnly u (f v u)

/-- A write instruction. -/
def IsStore (g : Nat → MemOp → State → Outcome) : Prop := ∃ value, ∀ base m s, g base m s = storeInstr base m value s

/-- A read-modify-write instruction whose effect after its write is the CPU's own. -/
def IsModify (g : Nat → MemOp → State → Outcome) : Prop :=
  ∃ modify after, (∀ base m s, g base m s = rmwInstr base m modify after s) ∧ ∀ r u, CpuOnly u (after r u)

/-- A shift or rotate, of A or of memory (R306 to R309). -/
def IsShift (g : Nat → ShiftOp → State → Outcome) : Prop :=
  ∃ modify, ∀ base o s, g base o s = shiftInstr base o modify s

theorem IsShift.isModify {g : Nat → ShiftOp → State → Outcome} (hg : IsShift g) :
    IsModify fun base m => g base (.mem m) := by
  obtain ⟨modify, hg⟩ := hg
  exact ⟨modify, fun r t => { t with p := t.p.setZN r }, fun base m s => hg base (.mem m) s, fun _ _ => rfl⟩

theorem isRead_lda : IsRead lda := ⟨_, fun _ _ _ => rfl, fun _ _ => rfl⟩
theorem isRead_ldx : IsRead ldx := ⟨_, fun _ _ _ => rfl, fun _ _ => rfl⟩
theorem isRead_ldy : IsRead ldy := ⟨_, fun _ _ _ => rfl, fun _ _ => rfl⟩
theorem isRead_adc : IsRead adc := ⟨_, fun _ _ _ => rfl, fun _ _ => rfl⟩
theorem isRead_sbc : IsRead sbc := ⟨_, fun _ _ _ => rfl, fun _ _ => rfl⟩
theorem isRead_andA : IsRead andA := ⟨_, fun _ _ _ => rfl, fun _ _ => rfl⟩
theorem isRead_ora : IsRead ora := ⟨_, fun _ _ _ => rfl, fun _ _ => rfl⟩
theorem isRead_eor : IsRead eor := ⟨_, fun _ _ _ => rfl, fun _ _ => rfl⟩
theorem isRead_bitTest : IsRead bitTest := ⟨_, fun _ _ _ => rfl, fun _ _ => rfl⟩
theorem isRead_cmp : IsRead cmp := ⟨_, fun _ _ _ => rfl, fun _ _ => rfl⟩
theorem isRead_cpx : IsRead cpx := ⟨_, fun _ _ _ => rfl, fun _ _ => rfl⟩
theorem isRead_cpy : IsRead cpy := ⟨_, fun _ _ _ => rfl, fun _ _ => rfl⟩
theorem isRead_nopRead : IsRead nopRead := ⟨_, fun _ _ _ => rfl, fun _ _ => rfl⟩
theorem isRead_lax : IsRead lax := ⟨_, fun _ _ _ => rfl, fun _ _ => rfl⟩

theorem isStore_sta : IsStore sta := ⟨_, fun _ _ _ => rfl⟩
theorem isStore_stx : IsStore stx := ⟨_, fun _ _ _ => rfl⟩
theorem isStore_sty : IsStore sty := ⟨_, fun _ _ _ => rfl⟩
theorem isStore_sax : IsStore sax := ⟨_, fun _ _ _ => rfl⟩

theorem isModify_inc : IsModify inc := ⟨_, _, fun _ _ _ => rfl, fun _ _ => rfl⟩
theorem isModify_dec : IsModify dec := ⟨_, _, fun _ _ _ => rfl, fun _ _ => rfl⟩
theorem isModify_dcp : IsModify dcp := ⟨_, _, fun _ _ _ => rfl, fun _ _ => rfl⟩
theorem isModify_isb : IsModify isb := ⟨_, _, fun _ _ _ => rfl, fun _ _ => rfl⟩
theorem isModify_slo : IsModify slo := ⟨_, _, fun _ _ _ => rfl, fun _ _ => rfl⟩
theorem isModify_rla : IsModify rla := ⟨_, _, fun _ _ _ => rfl, fun _ _ => rfl⟩
theorem isModify_sre : IsModify sre := ⟨_, _, fun _ _ _ => rfl, fun _ _ => rfl⟩
theorem isModify_rra : IsModify rra := ⟨_, _, fun _ _ _ => rfl, fun _ _ => rfl⟩

theorem isShift_asl : IsShift asl := ⟨_, fun _ _ _ => rfl⟩
theorem isShift_lsr : IsShift lsr := ⟨_, fun _ _ _ => rfl⟩
theorem isShift_rol : IsShift rol := ⟨_, fun _ _ _ => rfl⟩
theorem isShift_ror : IsShift ror := ⟨_, fun _ _ _ => rfl⟩

/-! What each shape of instruction accesses. -/

section Shapes

variable {A : Addr → Prop} {base : Nat} {s t : State}

theorem RunsOver.advance (len cyc : Nat) (h : RunsOver A s t) : RunsOver A s (advance len cyc t) := h.cpu rfl

/-- A stack push accesses its slot. -/
theorem RunsOver.push (v : Byte) (hstack : ∀ sp, A (stackSlot sp)) (h : RunsOver A s t) :
    RunsOver A s (pushed v t) := by
  rw [pushed_eq_writeEffect]
  exact (h.write v (hstack t.sp)).cpu (by simp [CpuOnly])

theorem impliedInstr_runsOver {f : State → State} (h : impliedInstr base f s = .next t)
    (hf : ∀ u, CpuOnly u (f u)) : RunsOver A s t := by
  cases h
  exact (RunsOver.start.advance 1 base).cpu (hf _)

theorem IsRead.runsOver {g : Nat → ReadOp → State → Outcome} {o : ReadOp} (hg : IsRead g)
    (h : g base o s = .next t) (hA : ∀ m ∈ o.memOp, A (eaOf m s)) : RunsOver A s t := by
  obtain ⟨f, hg, hf⟩ := hg
  rw [hg] at h
  cases o with
  | imm b =>
    cases h
    exact (RunsOver.start.advance 2 base).cpu (hf b _)
  | mem m =>
    obtain ⟨ea, u, hea, h⟩ := Res.finish_next h
    rw [resolve_eq] at hea
    cases hea
    obtain ⟨v, u, hread, h⟩ := Res.finish_next h
    cases h
    rw [busRead_ok_state hread]
    exact ((RunsOver.start.advance _ _).read (hA m rfl)).cpu (hf v _)

theorem IsStore.runsOver {g : Nat → MemOp → State → Outcome} {m : MemOp} (hg : IsStore g)
    (h : g base m s = .next t) (hA : A (eaOf m s)) : RunsOver A s t := by
  obtain ⟨value, hg⟩ := hg
  rw [hg] at h
  obtain ⟨ea, u, hea, h⟩ := Res.finish_next h
  rw [resolve_eq] at hea
  cases hea
  obtain ⟨_, u, hwrite, h⟩ := Res.finish_next h
  cases h
  rw [busWrite_ok_state hwrite]
  exact (RunsOver.start.advance _ _).write _ hA

theorem IsModify.runsOver {g : Nat → MemOp → State → Outcome} {m : MemOp} (hg : IsModify g)
    (h : g base m s = .next t) (hA : A (eaOf m s)) : RunsOver A s t := by
  obtain ⟨modify, after, hg, hafter⟩ := hg
  rw [hg] at h
  obtain ⟨ea, u, hea, h⟩ := Res.finish_next h
  rw [resolve_eq] at hea
  cases hea
  obtain ⟨v, u, hread, h⟩ := Res.finish_next h
  obtain ⟨_, u', hwrite, h⟩ := Res.finish_next h
  cases h
  rw [busWrite_ok_state hwrite, busRead_ok_state hread]
  exact ((((RunsOver.start.advance _ _).read hA).cpu (by rfl)).write _ hA).cpu (hafter _ _)

theorem IsShift.runsOver_acc {g : Nat → ShiftOp → State → Outcome} (hg : IsShift g)
    (h : g base .acc s = .next t) : RunsOver A s t := by
  obtain ⟨modify, hg⟩ := hg
  rw [hg] at h
  cases h
  exact RunsOver.start.cpu rfl

theorem branchInstr_runsOver {cond : Flags → Bool} {off : Byte} (h : branchInstr cond off s = .next t) :
    RunsOver A s t := by
  simp only [branchInstr] at h
  split at h
  · cases h
    exact RunsOver.start.cpu rfl
  · cases h
    exact RunsOver.start.cpu rfl

/-- The meaning of PHA and PHP (R260, R261). -/
theorem pushInstr_runsOver {v : Byte} (h : ((push v (advance 1 base s)).finish fun _ u => .next u) = .next t)
    (hstack : ∀ sp, A (stackSlot sp)) : RunsOver A s t := by
  rw [push_eq] at h
  cases h
  exact (RunsOver.start.advance 1 base).push v hstack

/-- The meaning of PLA and PLP (R262, R263). -/
theorem pullInstr_runsOver {f : Byte → State → State}
    (h : ((pull (advance 1 base s)).finish fun v u => .next (f v u)) = .next t) (hf : ∀ v u, CpuOnly u (f v u)) :
    RunsOver A s t := by
  rw [pull_eq] at h
  cases h
  exact ((RunsOver.start.advance 1 base).cpu (by rfl)).cpu (hf _ _)

theorem rts_runsOver (h : execRts s = .next t) : RunsOver A s t := by
  rw [execRts, pull16_eq] at h
  cases h
  exact RunsOver.start.cpu rfl

theorem rti_runsOver (h : execRti s = .next t) : RunsOver A s t := by
  rw [execRti, returnFromInterrupt_eq] at h
  cases h
  exact RunsOver.start.cpu rfl

theorem brk_runsOver (h : execBrk s = .next t) (hstack : ∀ sp, A (stackSlot sp)) : RunsOver A s t := by
  simp only [execBrk] at h
  rw [takeInterrupt_eq _ _ _ _ (by decide) (by decide)] at h
  cases h
  exact ((((RunsOver.start.advance 1 7).push _ hstack).push _ hstack).push _ hstack).cpu rfl

theorem jsrAbs_runsOver {target : Addr} (h : execJsrAbs target s = .next t) (hstack : ∀ sp, A (stackSlot sp)) :
    RunsOver A s t := by
  simp only [execJsrAbs] at h
  rw [push16_eq] at h
  cases h
  exact (((RunsOver.start.advance 3 6).push _ hstack).push _ hstack).cpu rfl

theorem jmpInd_runsOver {pointer : Addr} (h : execJmpInd pointer s = .next t) (hlow : A pointer)
    (hhigh : A (word16 (highByte pointer) (lowByte pointer + 1))) : RunsOver A s t := by
  obtain ⟨target, u, hptr, h⟩ := Res.finish_next h
  cases h
  obtain ⟨lo, u1, hlo, hptr⟩ := Res.andThen_ok hptr
  obtain ⟨hi, u2, hhi, hptr⟩ := Res.andThen_ok hptr
  cases hptr
  rw [busRead_ok_state hhi, busRead_ok_state hlo]
  exact ((RunsOver.start.read hlow).read hhigh).cpu rfl

end Shapes

/-- Every instruction that answers a next state accesses its data addresses and the stack page only. -/
theorem exec_runsOver {i : Instr} {s t : State} (h : exec i s = .next t) : RunsOver (mayAccess i s) s t := by
  have hstack : ∀ sp, mayAccess i s (stackSlot sp) := fun sp => .inr ⟨sp, rfl⟩
  have hmem : ∀ m, dataAddresses i s = [eaOf m.joined s] → mayAccess i s (eaOf m s) := fun m hm => .inl (by
    rw [hm, MemOp.joined_eq]
    exact .head _)
  have hread : ∀ o : Option MemOp, dataAddresses i s = (o.map fun m => eaOf m.joined s).toList →
      ∀ m ∈ o, mayAccess i s (eaOf m s) := by
    rintro _ ho m rfl
    exact hmem m ho
  cases i
  all_goals simp only [exec] at h
  case ldaIzx | ldaZp | ldaImm | ldaAbs | ldaIzy | ldaZpx | ldaAby | ldaAbx => exact isRead_lda.runsOver h (hread _ rfl)
  case ldxImm | ldxZp | ldxAbs | ldxZpy | ldxAby => exact isRead_ldx.runsOver h (hread _ rfl)
  case ldyImm | ldyZp | ldyAbs | ldyZpx | ldyAbx => exact isRead_ldy.runsOver h (hread _ rfl)
  case staIzx | staZp | staAbs | staIzy | staZpx | staAby | staAbx =>
    exact isStore_sta.runsOver h (hmem _ rfl)
  case stxZp | stxAbs | stxZpy => exact isStore_stx.runsOver h (hmem _ rfl)
  case styZp | styAbs | styZpx => exact isStore_sty.runsOver h (hmem _ rfl)
  case tax | tay | txa | tya | tsx | txs | inx | iny | dex | dey | clc | sec | cli | sei | cld | sed | clv | nop =>
    exact impliedInstr_runsOver h fun _ => rfl
  case pha | php => exact pushInstr_runsOver h hstack
  case pla | plp => exact pullInstr_runsOver h fun _ _ => rfl
  case adcIzx | adcZp | adcImm | adcAbs | adcIzy | adcZpx | adcAby | adcAbx => exact isRead_adc.runsOver h (hread _ rfl)
  case sbcIzx | sbcZp | sbcImm | sbcAbs | sbcIzy | sbcZpx | sbcAby | sbcAbx => exact isRead_sbc.runsOver h (hread _ rfl)
  case andIzx | andZp | andImm | andAbs | andIzy | andZpx | andAby | andAbx =>
    exact isRead_andA.runsOver h (hread _ rfl)
  case oraIzx | oraZp | oraImm | oraAbs | oraIzy | oraZpx | oraAby | oraAbx => exact isRead_ora.runsOver h (hread _ rfl)
  case eorIzx | eorZp | eorImm | eorAbs | eorIzy | eorZpx | eorAby | eorAbx => exact isRead_eor.runsOver h (hread _ rfl)
  case bitZp | bitAbs => exact isRead_bitTest.runsOver h (hread _ rfl)
  case cmpIzx | cmpZp | cmpImm | cmpAbs | cmpIzy | cmpZpx | cmpAby | cmpAbx => exact isRead_cmp.runsOver h (hread _ rfl)
  case cpxImm | cpxZp | cpxAbs => exact isRead_cpx.runsOver h (hread _ rfl)
  case cpyImm | cpyZp | cpyAbs => exact isRead_cpy.runsOver h (hread _ rfl)
  case incZp | incAbs | incZpx | incAbx => exact isModify_inc.runsOver h (hmem _ rfl)
  case decZp | decAbs | decZpx | decAbx => exact isModify_dec.runsOver h (hmem _ rfl)
  case aslZp | aslAbs | aslZpx | aslAbx => exact isShift_asl.isModify.runsOver h (hmem _ rfl)
  case aslAcc => exact isShift_asl.runsOver_acc h
  case lsrZp | lsrAbs | lsrZpx | lsrAbx => exact isShift_lsr.isModify.runsOver h (hmem _ rfl)
  case lsrAcc => exact isShift_lsr.runsOver_acc h
  case rolZp | rolAbs | rolZpx | rolAbx => exact isShift_rol.isModify.runsOver h (hmem _ rfl)
  case rolAcc => exact isShift_rol.runsOver_acc h
  case rorZp | rorAbs | rorZpx | rorAbx => exact isShift_ror.isModify.runsOver h (hmem _ rfl)
  case rorAcc => exact isShift_ror.runsOver_acc h
  case bpl | bmi | bvc | bvs | bcc | bcs | bne | beq => exact branchInstr_runsOver h
  case rts => exact rts_runsOver h
  case rti => exact rti_runsOver h
  case brk => exact brk_runsOver h hstack
  case jmpAbs =>
    cases h
    exact RunsOver.start.cpu rfl
  case jmpInd => exact jmpInd_runsOver h (.inl (.head _)) (.inl (.tail _ (.head _)))
  case jsrAbs => exact jsrAbs_runsOver h hstack
  case nop04 | nop0C | nop14 | nop1C | nop34 | nop3C | nop44 | nop54 | nop5C | nop64 | nop74 | nop7C | nop80 |
      nop82 | nop89 | nopC2 | nopD4 | nopDC | nopE2 | nopF4 | nopFC =>
    exact isRead_nopRead.runsOver (gated_next h) (hread _ rfl)
  case nop1A | nop3A | nop5A | nop7A | nopDA | nopFA => exact impliedInstr_runsOver (gated_next h) fun _ => rfl
  case laxIzx | laxZp | laxAbs | laxIzy | laxZpy | laxAby => exact isRead_lax.runsOver (gated_next h) (hread _ rfl)
  case saxIzx | saxZp | saxAbs | saxZpy => exact isStore_sax.runsOver (gated_next h) (hmem _ rfl)
  case sbcImmEB => exact isRead_sbc.runsOver (gated_next h) (hread _ rfl)
  case dcpIzx | dcpZp | dcpAbs | dcpIzy | dcpZpx | dcpAby | dcpAbx =>
    exact isModify_dcp.runsOver (gated_next h) (hmem _ rfl)
  case isbIzx | isbZp | isbAbs | isbIzy | isbZpx | isbAby | isbAbx =>
    exact isModify_isb.runsOver (gated_next h) (hmem _ rfl)
  case sloIzx | sloZp | sloAbs | sloIzy | sloZpx | sloAby | sloAbx =>
    exact isModify_slo.runsOver (gated_next h) (hmem _ rfl)
  case rlaIzx | rlaZp | rlaAbs | rlaIzy | rlaZpx | rlaAby | rlaAbx =>
    exact isModify_rla.runsOver (gated_next h) (hmem _ rfl)
  case sreIzx | sreZp | sreAbs | sreIzy | sreZpx | sreAby | sreAbx =>
    exact isModify_sre.runsOver (gated_next h) (hmem _ rfl)
  case rraIzx | rraZp | rraAbs | rraIzy | rraZpx | rraAby | rraAbx =>
    exact isModify_rra.runsOver (gated_next h) (hmem _ rfl)
  case anc0B | anc2B | alrImm | arrImm | aneImm | lxaImm | sbxImm | shaIzy | shaAby | shyAbx | shxAby | tasAby |
      lasAby | jam02 | jam12 | jam22 | jam32 | jam42 | jam52 | jam62 | jam72 | jam92 | jamB2 | jamD2 | jamF2 =>
    exact absurd h (illegalInstr_ne_next _ _ _)

end Sys2Proof.Machine
end

section
/-! PROOF. An instruction touches a device only where one of its own data addresses names it (spec/20_memory.md R101, R102, R109). -/

namespace Sys2Proof.Machine

/-! What an access of an address without a device leaves. -/

/-- Outside the PPU registers, the OAM DMA and the controllers a write leaves the devices and the stall. -/
theorem writeEffect_of_no_device (addr : Addr) (v : Byte) (s : State)
    (h : addr.toNat < 0x2000 ∨ 0x4020 ≤ addr.toNat) :
    (writeEffect addr v s).ppu = s.ppu ∧ (writeEffect addr v s).pads = s.pads ∧
      (writeEffect addr v s).stall = s.stall := by
  have hn : addr.toNat ≤ 0xFFFF := Nat.le_of_lt_succ addr.isLt
  simp only [writeEffect, inPpuWindow, Bool.and_eq_true, decide_eq_true_eq]
  split
  · exact ⟨rfl, rfl, rfl⟩
  · rw [if_neg (by omega), if_neg (by omega), if_neg (by omega), mapperCpuWrite_state _ v s hn]
    split <;> exact ⟨rfl, rfl, rfl⟩

/-- Below 0x8000 a write leaves the bank windows. -/
theorem writeEffect_map_of_lt (addr : Addr) (v : Byte) (s : State) (h : addr.toNat < 0x8000) :
    (writeEffect addr v s).map = s.map := by
  simp only [writeEffect]
  split_ifs
  · rfl
  · rw [ppuRegWrite_state]
  · rw [dmaEffect_state]
  · rfl
  · rfl
  · rw [mapperCpuWrite_cases _ v s (by omega), if_pos (by omega)]

/-! The instruction. -/

/-- A range that holds the stack page and every data address holds every address the instruction may access. -/
theorem mayAccess_imp {i : Instr} {s : State} {P : Nat → Prop} (hstack : ∀ n < 0x200, P n)
    (hdata : ∀ a ∈ dataAddresses i s, P a.toNat) (addr : Addr) (h : mayAccess i s addr) : P addr.toNat := by
  obtain h | ⟨sp, rfl⟩ := h
  · exact hdata addr h
  · have := sp.isLt
    exact hstack _ (by rw [stackSlot_toNat]; omega)

/-- Settles O56: the instruction is a run over its data addresses and the stack page, and none of them is a device's. -/
theorem deviceFrame : Obligations.DeviceFrame := by
  unfold Obligations.DeviceFrame
  intro i s t h
  have run := exec_runsOver h
  refine ⟨fun hdata => ?_, fun hdata => ?_⟩
  · have off_device := mayAccess_imp (P := fun n => n < 0x2000 ∨ 0x4020 ≤ n) (fun n hn => .inl (by omega)) hdata
    have kept := run.field (fun u => (u.ppu, u.pads, u.stall)) (fun u v hcpu => by rw [hcpu])
      (fun addr u haddr => by rw [readEffect_of_no_device addr u (off_device addr haddr)])
      (fun addr v u haddr => by
        obtain ⟨hppu, hpads, hstall⟩ := writeEffect_of_no_device addr v u (off_device addr haddr)
        rw [hppu, hpads, hstall])
    simpa using kept
  · have below := mayAccess_imp (P := (· < 0x8000)) (fun n hn => by omega) hdata
    exact run.field State.map (fun u v hcpu => by rw [hcpu]) (fun addr u _ => readEffect_map addr u)
      (fun addr v u haddr => writeEffect_map_of_lt addr v u (below addr haddr))

end Sys2Proof.Machine
end

section
/-! PROOF. The decoder and the encoder are inverse to each other, and the opcode map has the counts of its rule (spec/30_encoding.md R150 to R160). -/

namespace Sys2Proof

open Machine (word16_high_low highByte_word16 lowByte_word16)

/-! What the decoder answers, by the shape of the opcode's row. -/

section Shapes

variable {op : Byte} {row : Row}

theorem decode_op0 {i : Instr} (hrow : rowOf op = some row) (hshape : row.shape = .op0 i) (rest : List Byte) :
    decode (op :: rest) = .ok (i, rest) := by
  simp [decode, hrow, hshape]

theorem decode_op1 {f : Byte → Instr} (hrow : rowOf op = some row) (hshape : row.shape = .op1 f) (b : Byte)
    (rest : List Byte) : decode (op :: b :: rest) = .ok (f b, rest) := by
  simp [decode, hrow, hshape]

theorem decode_op1_nil {f : Byte → Instr} (hrow : rowOf op = some row) (hshape : row.shape = .op1 f) :
    decode [op] = .error (.missingOperand op) := by
  simp [decode, hrow, hshape]

theorem decode_op2 {f : Addr → Instr} (hrow : rowOf op = some row) (hshape : row.shape = .op2 f) (lo hi : Byte)
    (rest : List Byte) : decode (op :: lo :: hi :: rest) = .ok (f (word16 hi lo), rest) := by
  simp [decode, hrow, hshape]

theorem decode_op2_nil {f : Addr → Instr} (hrow : rowOf op = some row) (hshape : row.shape = .op2 f) :
    decode [op] = .error (.missingOperand op) := by
  simp [decode, hrow, hshape]

theorem decode_op2_singleton {f : Addr → Instr} (hrow : rowOf op = some row) (hshape : row.shape = .op2 f) (lo : Byte) :
    decode [op, lo] = .error (.missingOperand op) := by
  simp [decode, hrow, hshape]

end Shapes

/-! Decoding what was encoded. -/

/-- A shape builds an instruction, from some operand. -/
inductive Shape.Builds : Shape → Instr → Prop
  | op0 (i : Instr) : Builds (.op0 i) i
  | op1 (f : Byte → Instr) (b : Byte) : Builds (.op1 f) (f b)
  | op2 (f : Addr → Instr) (w : Addr) : Builds (.op2 f) (f w)

/-- The opcode map is complete: each instruction is built by the row of its opcode (R156, R160). -/
theorem rowOf_opcodeOf_builds (i : Instr) : ∃ row, rowOf (opcodeOf i) = some row ∧ row.shape.Builds i := by
  cases i <;> exact ⟨_, rfl, by constructor⟩

/-- Settles O1: the row of the opcode builds the instruction, and it builds it from the operand bytes of its encoding. -/
theorem decodeEncode : Obligations.DecodeEncode := by
  unfold Obligations.DecodeEncode
  intro i rest
  obtain ⟨⟨_, _, shape⟩, hrow, hbuilds⟩ := rowOf_opcodeOf_builds i
  have hfits := rowOf_fits _ _ hrow
  generalize opcodeOf i = op at hrow hfits
  cases hbuilds with
  | op0 =>
    rw [show encode i = [op] from hfits]
    exact decode_op0 hrow rfl rest
  | op1 f b =>
    rw [show encode (f b) = [op, b] from hfits b]
    exact decode_op1 hrow rfl b rest
  | op2 f w =>
    rw [show encode (f w) = [op, lowByte w, highByte w] from hfits w]
    simpa using decode_op2 hrow rfl (lowByte w) (highByte w) rest

/-! Encoding what was decoded. -/

/-- The bytes read are the encoding of the instruction: no other bytes decode to it. -/
theorem eq_encode_append_of_decode {bytes rest : List Byte} {i : Instr} (h : decode bytes = .ok (i, rest)) :
    bytes = encode i ++ rest := by
  cases bytes with
  | nil => cases h
  | cons op operand =>
    obtain ⟨⟨_, _, shape⟩, hrow⟩ := rowOf_isSome op
    have hfits := rowOf_fits _ _ hrow
    cases shape with
    | op0 j =>
      cases (decode_op0 hrow rfl operand).symm.trans h
      rw [show encode i = [op] from hfits]
      rfl
    | op1 f =>
      match operand with
      | [] => cases (decode_op1_nil hrow rfl).symm.trans h
      | b :: tail =>
        cases (decode_op1 hrow rfl b tail).symm.trans h
        rw [show encode (f b) = [op, b] from hfits b]
        rfl
    | op2 f =>
      match operand with
      | [] => cases (decode_op2_nil hrow rfl).symm.trans h
      | [lo] => cases (decode_op2_singleton hrow rfl lo).symm.trans h
      | lo :: hi :: tail =>
        cases (decode_op2 hrow rfl lo hi tail).symm.trans h
        rw [show encode (f (word16 hi lo)) = _ from hfits _, lowByte_word16, highByte_word16]
        rfl

/-- Two operand bytes are enough for every opcode (R152, R160). -/
theorem decode_isOk (op b1 b2 : Byte) : ∃ i rest, decode [op, b1, b2] = .ok (i, rest) := by
  obtain ⟨⟨_, _, shape⟩, hrow⟩ := rowOf_isSome op
  cases shape with
  | op0 i => exact ⟨_, _, decode_op0 hrow rfl _⟩
  | op1 f => exact ⟨_, _, decode_op1 hrow rfl _ _⟩
  | op2 f => exact ⟨_, _, decode_op2 hrow rfl _ _ _⟩

/-- The mode tells the length (R152). -/
theorem length_encode (i : Instr) : (encode i).length = i.mode.length := by
  cases i <;> rfl

theorem Mode.length_pos (m : Mode) : 0 < m.length := by
  cases m <;> decide

/-- Bytes that begin with an encoding begin with its opcode byte. -/
theorem opcodeOf_of_cons_eq {op : Byte} {operand rest : List Byte} {i : Instr} (h : op :: operand = encode i ++ rest) :
    opcodeOf i = op := by
  have hpos : 0 < (encode i).length := by
    rw [length_encode]
    exact i.mode.length_pos
  obtain ⟨b, tail, hbytes⟩ := List.exists_cons_of_length_pos hpos
  rw [hbytes] at h
  cases h
  rw [opcodeOf, hbytes]
  rfl

/-- Settles O2: what decodes is an encoding, and the mode gives the length of an encoding. -/
theorem decodeTotal : Obligations.DecodeTotal := by
  unfold Obligations.DecodeTotal
  refine ⟨fun _ _ _ => eq_encode_append_of_decode, fun op b1 b2 => ?_, rfl, rfl⟩
  obtain ⟨i, rest, hdecode⟩ := decode_isOk op b1 b2
  have hbytes := eq_encode_append_of_decode hdecode
  refine ⟨i, rest, hdecode, opcodeOf_of_cons_eq hbytes, ?_⟩
  change rest.length + i.mode.length = 3
  rw [← length_encode, Nat.add_comm, ← List.length_append, ← hbytes]
  rfl

/-! The opcode map. -/

/-- The instruction of a row with a zero operand. -/
def Row.instr (row : Row) : Instr :=
  match row.shape with
  | .op0 i => i
  | .op1 f => f 0
  | .op2 f => f 0

/-- The 256 opcode bytes decode to the instructions of the map, in order. -/
theorem filterMap_decodeTableWord : (List.range 256).filterMap (decodeTableWord 24) = opcodeTable.map Row.instr := by
  decide +kernel

/-- Settles O3: the classes and mnemonics are counted over the rows of the map. -/
theorem opcodeMapCounts : Obligations.OpcodeMapCounts := by
  unfold Obligations.OpcodeMapCounts
  rw [filterMap_decodeTableWord]
  decide +kernel

/-- Settles O4: each word is the encoding of its instruction. -/
theorem decodeWords : Obligations.DecodeWords :=
  ⟨decodeEncode (.ldaAbx 0x1234) [], decodeEncode .php [], decodeEncode (.sbcIzy 0x20) [],
    decodeEncode (.rorAbs 0x0304) [], decodeEncode (.bne 0xFB) [], decodeEncode (.jmpInd 0x02FF) [],
    decodeEncode .sed [], decodeEncode (.dcpZp 0x10) [], decodeEncode .jam02 []⟩

end Sys2Proof
end

section
/-! PROOF. A fetch that stops at its opcode stops the machine (spec/30_encoding.md R161, spec/20_memory.md R101). -/

namespace Sys2Proof.Machine

/-- The step of R200 is an instruction step where nothing of a higher priority stands (R415). -/
theorem step_eq_instrStep {s : State} (h : s.instrReady = true) : step s = instrStep s := by
  simp only [State.instrReady, Bool.and_eq_true, Option.isNone_iff_eq_none, decide_eq_true_eq, Bool.not_eq_true'] at h
  obtain ⟨⟨⟨hfault, hstall⟩, hnmi⟩, hirq⟩ := h
  rw [step, hfault]
  simp [liveStep, hstall, hnmi, hirq, -irqInput_eq]

theorem instrStep_of_fetch_fault {s : State} {e : Fault} (h : fetch s = .fault e) : instrStep s = .fault e := by
  rw [instrStep, h]
  rfl

theorem fetch_of_unmapped {s : State} (h : unmapped s.pc = true) : fetch s = .fault (raiseUnmapped s.pc .read s) := by
  rw [fetch, busRead_unmapped _ _ h]
  rfl

/-- The gate of R161: an opcode whose row is not executable stops the fetch after its one read. -/
theorem fetch_of_not_executable {s : State} {row : Row} (hpc : unmapped s.pc = false)
    (hrow : rowOf (readValue s.pc s) = some row) (hgate : executable s.cfg.unofficial row = false) :
    fetch s = .fault (raiseIllegal (readValue s.pc s) (readEffect s.pc s)) := by
  rw [fetch, busRead_mapped _ _ hpc]
  simp [Res.andThen, hrow, hgate]

/-- The gate does not depend on the operand: the row of an opcode is executable when the instruction is well formed (R161). -/
theorem executable_rowOf_opcodeOf (m : Unofficial) (i : Instr) :
    ∃ row, rowOf (opcodeOf i) = some row ∧ executable m row = WellFormed m i := by
  cases i <;> exact ⟨_, rfl, rfl⟩

/-- Settles O7: the fetch ends at the gate, or at the opcode read before it. -/
theorem illegalFetch : Obligations.IllegalFetch := by
  unfold Obligations.IllegalFetch
  refine ⟨fun s i hready hpc hop hill => ?_, fun s hready hpc => ?_⟩
  · obtain ⟨row, hrow, hgate⟩ := executable_rowOf_opcodeOf s.cfg.unofficial i
    rw [hill] at hgate
    rw [← hop] at hrow
    rw [step_eq_instrStep hready, instrStep_of_fetch_fault (fetch_of_not_executable hpc hrow hgate), hop]
    simp only [raiseIllegal, readEffect_pc]
  · rw [step_eq_instrStep hready, instrStep_of_fetch_fault (fetch_of_unmapped hpc), raiseUnmapped]

end Sys2Proof.Machine
end

section
/-! PROOF. Resolving an operand and the conditional branches, in arithmetic on numbers (spec/40_step_addressing.md R204 to R220, spec/45_control.md R320 to R328). -/

namespace Sys2Proof.Machine

/-- The high byte of a zero-page pointer lies at the next address, 0x00 after 0xFF (R206). -/
theorem zeroPage_succ {p : Nat} (hp : p < 256) : (p + 1) % 256 = if p = 255 then 0 else p + 1 := by
  split <;> omega

/-- The base and the indexed address lie in different pages when the low bytes overflow (R18, R215 to R219). -/
theorem page_ne_iff {base r : Nat} (hbase : base < 65536) (hr : r < 256) :
    base / 256 ≠ (BitVec.ofNat 16 (base + r)).toNat / 256 ↔ 256 ≤ base % 256 + r := by
  rw [BitVec.toNat_ofNat]
  omega

/-- A zero-page pointer as a number (R206). -/
theorem pointerAt_toNat (p : Nat) (s : State) :
    (pointerAt p s).toNat = (Memory.read s.ram p).toNat + 256 * (Memory.read s.ram ((p + 1) % 256)).toNat := by
  have hlo := (Memory.read s.ram p).isLt
  have hhi := (Memory.read s.ram ((p + 1) % 256)).isLt
  rw [pointerAt, BitVec.toNat_ofNat]
  omega

/-- Settles O39: resolving has a closed form, which never faults and changes nothing; what remains is arithmetic on a page. -/
theorem effectiveAddresses : Obligations.EffectiveAddresses := by
  unfold Obligations.EffectiveAddresses
  refine ⟨fun b s => ⟨resolve_eq (.zp b) s, resolve_eq (.zpx b) s, resolve_eq (.zpy b) s, ?_, ?_⟩,
    fun w s => ⟨?_, ?_, ?_⟩⟩
  · rw [resolve_eq, eaOf, crossedOf, pointerAt, zeroPage_succ (Nat.mod_lt _ (by decide))]
  · simp only [resolve_eq, eaOf, crossedOf, page_ne_iff (pointerAt b.toNat s).isLt s.y.isLt]
    rw [pointerAt_toNat, zeroPage_succ b.isLt]
  · simp only [resolve_eq, eaOf, crossedOf, BitVec.ofNat_toNat, BitVec.setWidth_eq]
  · simp only [resolve_eq, eaOf, crossedOf, page_ne_iff w.isLt s.x.isLt]
  · simp only [resolve_eq, eaOf, crossedOf, page_ne_iff w.isLt s.y.isLt]

/-! The branches. -/

/-- The address after a branch (R201). -/
theorem add_two_eq_ofNat (pc : Addr) : pc + BitVec.ofNat 16 2 = BitVec.ofNat 16 (pc.toNat + 2) := by
  rw [BitVec.ofNat_add, BitVec.ofNat_toNat, BitVec.setWidth_eq]

/-- The target of a branch: the signed offset on the next address (R220). -/
theorem branchTarget_eq (pc : Addr) (off : Byte) :
    pc + 2 + off.signExtend 16 = BitVec.ofInt 16 (pc.toNat + 2 + off.toInt) := by
  rw [BitVec.ofInt_add, BitVec.signExtend]
  congr 1

/-- A taken branch costs one cycle more, two to another page (R204). -/
theorem takenCycles_eq (a b : Addr) :
    BitVec.ofNat 64 (1 + (pageDiffers a b).toNat) = if a.toNat / 256 = b.toNat / 256 then 1 else 2 := by
  rw [pageDiffers_eq]
  split <;> simp [*]

/-- A branch instruction, in the form R204 and R220 give it. -/
theorem branchesAs_of_exec {cond : Flags → Bool} {i : Byte → Instr} {op : Byte} (hop : ∀ b, opcodeOf (i b) = op)
    (hexec : ∀ b s, exec (i b) s = branchInstr cond b s) : BranchesAs cond i op := by
  unfold BranchesAs
  refine fun b s => ⟨hop b, ?_⟩
  rw [hexec, branchInstr]
  simp only [advance_p, advance_pc, branchTarget_eq, add_two_eq_ofNat, charge, takenCycles_eq]
  split
  · rfl
  · rfl

/-- Settles O48: the eight branches differ in their condition only. -/
theorem branches : Obligations.Branches := by
  unfold Obligations.Branches
  refine ⟨?_, ?_, ?_, ?_, ?_, ?_, ?_, ?_⟩ <;> exact branchesAs_of_exec (fun _ => rfl) fun _ _ => rfl

end Sys2Proof.Machine
end

section
/-! PROOF. The fetch reads the bytes of the encoding, and an instruction step runs what they decode to (spec/40_step_addressing.md R200, R201, spec/30_encoding.md R150, R161). -/

namespace Sys2Proof.Machine

/-! Reading bytes one by one. -/

theorem readBytes_nil_iff {addr : Addr} {s t : State} : readBytes 0 addr s = .ok [] t ↔ s = t := by
  simp [readBytes]

theorem readBytes_cons_iff {n : Nat} {addr : Addr} {s t : State} {b : Byte} {bs : List Byte} :
    readBytes (n + 1) addr s = .ok (b :: bs) t ↔
      ∃ u, busRead addr s = .ok b u ∧ readBytes n (addr + 1) u = .ok bs t := by
  constructor
  · intro h
    obtain ⟨b', u, hb, h⟩ := Res.andThen_ok h
    obtain ⟨bs', u', hbs, h⟩ := Res.andThen_ok h
    cases h
    exact ⟨u, hb, hbs⟩
  · rintro ⟨u, hb, hbs⟩
    simp only [readBytes, hb, hbs, Res.andThen]

/-! What the fetch answers, by the shape of the opcode's row. -/

section Shapes

variable {s t u : State} {op : Byte} {row : Row}

/-- The opcode byte is read, has a row, and passes the gate of R161. -/
structure FetchesRow (s : State) (op : Byte) (row : Row) (u : State) : Prop where
  opcode : busRead s.pc s = .ok op u
  known : rowOf op = some row
  gate : executable s.cfg.unofficial row = true

/-- A fetch that answers has passed the gate. -/
theorem fetchesRow_of_fetch {i : Instr} (h : fetch s = .ok i t) : ∃ op row u, FetchesRow s op row u := by
  obtain ⟨op, u, hop, h⟩ := Res.andThen_ok h
  obtain ⟨row, hrow⟩ := rowOf_isSome op
  simp only [hrow] at h
  split at h
  · next hgate => exact ⟨op, row, u, hop, hrow, hgate⟩
  · cases h

theorem fetch_op0 {i : Instr} (h : FetchesRow s op row u) (hshape : row.shape = .op0 i) : fetch s = .ok i u := by
  simp [fetch, h.opcode, h.known, h.gate, hshape, Res.andThen]

theorem fetch_op1 {f : Byte → Instr} (h : FetchesRow s op row u) (hshape : row.shape = .op1 f) :
    fetch s = (busRead (s.pc + 1) u).andThen fun b v => .ok (f b) v := by
  simp [fetch, h.opcode, h.known, h.gate, hshape, Res.andThen]

theorem fetch_op2 {f : Addr → Instr} (h : FetchesRow s op row u) (hshape : row.shape = .op2 f) :
    fetch s = (busRead (s.pc + 1) u).andThen fun lo v =>
      (busRead (s.pc + 1 + 1) v).andThen fun hi w => .ok (f (word16 hi lo)) w := by
  simp [fetch, h.opcode, h.known, h.gate, hshape, Res.andThen, BitVec.add_assoc]

/-- An opcode's row is executable when an instruction with that opcode is well formed (R161). -/
theorem executable_eq_wellFormed {i : Instr} {operand : List Byte} (m : Unofficial) (hrow : rowOf op = some row)
    (hencode : encode i = op :: operand) : executable m row = WellFormed m i := by
  obtain ⟨row', hrow', hgate⟩ := executable_rowOf_opcodeOf m i
  rw [opcodeOf, hencode, List.headD_cons, hrow] at hrow'
  cases hrow'
  exact hgate

end Shapes

/-- A fetch reads the bytes of the instruction that it answers, and no others. -/
theorem readBytes_of_fetch {i : Instr} {s t : State} (h : fetch s = .ok i t) :
    WellFormed s.cfg.unofficial i = true ∧ readBytes (encode i).length s.pc s = .ok (encode i) t := by
  obtain ⟨op, ⟨_, _, shape⟩, u, hfetches⟩ := fetchesRow_of_fetch h
  have hfits := rowOf_fits _ _ hfetches.known
  have wellFormed {j : Instr} {operand : List Byte} (hencode : encode j = op :: operand) :
      WellFormed s.cfg.unofficial j = true :=
    (executable_eq_wellFormed _ hfetches.known hencode).symm.trans hfetches.gate
  cases shape with
  | op0 j =>
    have hencode : encode j = [op] := hfits
    cases (fetch_op0 hfetches rfl).symm.trans h
    refine ⟨wellFormed hencode, ?_⟩
    rw [hencode]
    exact readBytes_cons_iff.2 ⟨_, hfetches.opcode, readBytes_nil_iff.2 rfl⟩
  | op1 f =>
    rw [fetch_op1 hfetches rfl] at h
    obtain ⟨b, v, hb, h⟩ := Res.andThen_ok h
    cases h
    have hencode : encode (f b) = [op, b] := hfits b
    refine ⟨wellFormed hencode, ?_⟩
    rw [hencode]
    exact readBytes_cons_iff.2 ⟨u, hfetches.opcode, readBytes_cons_iff.2 ⟨_, hb, readBytes_nil_iff.2 rfl⟩⟩
  | op2 f =>
    rw [fetch_op2 hfetches rfl] at h
    obtain ⟨lo, v, hlo, h⟩ := Res.andThen_ok h
    obtain ⟨hi, w, hhi, h⟩ := Res.andThen_ok h
    cases h
    have hencode : encode (f (word16 hi lo)) = [op, lo, hi] := by
      rw [show encode (f (word16 hi lo)) = _ from hfits _, lowByte_word16, highByte_word16]
    refine ⟨wellFormed hencode, ?_⟩
    rw [hencode]
    exact readBytes_cons_iff.2 ⟨u, hfetches.opcode,
      readBytes_cons_iff.2 ⟨v, hlo, readBytes_cons_iff.2 ⟨_, hhi, readBytes_nil_iff.2 rfl⟩⟩⟩

/-- Reading the bytes of a well-formed instruction is fetching it. -/
theorem fetch_of_readBytes {i : Instr} {s t : State} (hwf : WellFormed s.cfg.unofficial i = true)
    (h : readBytes (encode i).length s.pc s = .ok (encode i) t) : fetch s = .ok i t := by
  obtain ⟨⟨_, _, shape⟩, hrow, hbuilds⟩ := rowOf_opcodeOf_builds i
  have hfits := rowOf_fits _ _ hrow
  generalize opcodeOf i = op at hrow hfits
  have fetches {u : State} {operand : List Byte} (hencode : encode i = op :: operand)
      (hop : busRead s.pc s = .ok op u) : FetchesRow s op _ u :=
    ⟨hop, hrow, (executable_eq_wellFormed _ hrow hencode).trans hwf⟩
  cases hbuilds with
  | op0 =>
    have hencode : encode i = [op] := hfits
    rw [hencode] at h
    obtain ⟨u, hop, h⟩ := readBytes_cons_iff.1 h
    cases readBytes_nil_iff.1 h
    exact fetch_op0 (fetches hencode hop) rfl
  | op1 f b =>
    have hencode : encode (f b) = [op, b] := hfits b
    rw [hencode] at h
    obtain ⟨u, hop, h⟩ := readBytes_cons_iff.1 h
    obtain ⟨v, hb, h⟩ := readBytes_cons_iff.1 h
    cases readBytes_nil_iff.1 h
    rw [fetch_op1 (fetches hencode hop) rfl, hb]
    rfl
  | op2 f w =>
    have hencode : encode (f w) = [op, lowByte w, highByte w] := hfits w
    rw [hencode] at h
    obtain ⟨u, hop, h⟩ := readBytes_cons_iff.1 h
    obtain ⟨v, hlo, h⟩ := readBytes_cons_iff.1 h
    obtain ⟨v', hhi, h⟩ := readBytes_cons_iff.1 h
    cases readBytes_nil_iff.1 h
    rw [fetch_op2 (fetches hencode hop) rfl, hlo]
    simp only [Res.andThen, hhi, word16_high_low]

/-- Settles O6: the fetch reads the opcode byte and the operand bytes that its row asks for. -/
theorem fetchReadsEncoding : Obligations.FetchReadsEncoding := by
  unfold Obligations.FetchReadsEncoding
  exact fun s s1 i => ⟨readBytes_of_fetch, fun ⟨hwf, h⟩ => fetch_of_readBytes hwf h⟩

/-- What an instruction step does after its fetch (R200). -/
theorem instrStep_of_fetch {i : Instr} {s t : State} (h : fetch s = .ok i t) :
    instrStep s = afterInstr s (exec i t) := by
  rw [instrStep, h]
  rfl

/-- Settles O5: bytes that decode are an encoding, and reading an encoding is the fetch. -/
theorem stepRunsDecoded : Obligations.StepRunsDecoded := by
  unfold Obligations.StepRunsDecoded
  intro s s1 bytes i hready hread hdecode hwf
  obtain rfl : bytes = encode i := by simpa using eq_encode_append_of_decode hdecode
  rw [step_eq_instrStep hready, instrStep_of_fetch (fetch_of_readBytes hwf hread)]
  cases exec i s1 with
  | next t => exact congrArg _ (payTicks_eq _ _)
  | fault e => rfl
  | refused r => rfl

/-! The stall step. -/

/-- A tick only ever sets the NMI latch (R505). -/
theorem tick_nmiPending (s : State) : (tick s).nmiPending =
    (s.nmiPending || (decide (s.ppu.nmiDelay = 1) && s.ppu.ctrl.getLsbD 7 && s.ppu.vblank)) := by
  have hcount : (tick s).nmiPending = (countNmi s).nmiPending := by
    simp only [tick]
    split
    · rfl
    · rw [ppuOnly_actAtPosition, advancePosition_state]
  rw [hcount, countNmi_eq]

/-- An NMI that is pending stays pending over ticks. -/
theorem ticks_nmiPending_of_pending (n : Nat) {s : State} (h : s.nmiPending = true) :
    (ticks n s).nmiPending = true := by
  induction n generalizing s with
  | zero => exact h
  | succ n ih => exact ih (by rw [tick_nmiPending, h, Bool.true_or])

theorem step_eq_stallStep {s : State} (hfault : s.fault = none) (hstall : 0 < s.stall) : step s = stallStep s := by
  rw [step, hfault]
  exact if_pos hstall

/-- Settles O8: a pending stall comes before NMI and IRQ (R415), and the ticks after it keep the NMI latch. -/
theorem stallAndFaultedSteps : Obligations.StallAndFaultedSteps := by
  unfold Obligations.StallAndFaultedSteps
  refine ⟨fun s hfault hstall => ?_, fun s r hfault => ?_⟩
  · rw [step_eq_stallStep hfault hstall, stallStep, payTicks_eq]
    refine ⟨rfl, fun hnmi t ht => ?_⟩
    cases ht
    exact ticks_nmiPending_of_pending _ hnmi
  · rw [step, hfault]

end Sys2Proof.Machine
end

section
/-! PROOF. An instruction changes only the bytes it stores to or pushes (spec/40_step_addressing.md R221, spec/20_memory.md R102, spec/00_scope.md R15). -/

namespace Sys2Proof.Machine

/-! Bytes of the memories. -/

/-- The memories that a place names a byte of. -/
def memories (s : State) : Mem × Mem × Mem × Mem × Mem × Mem × Mem :=
  (s.ram, s.prgRam, s.prgRom, s.chr, s.oam, s.palette, s.vram)

theorem readPlace_eq_of_memories {s t : State} (h : memories t = memories s) (c : Place) :
    readPlace c t = readPlace c s := by
  simp only [memories, Prod.mk.injEq] at h
  obtain ⟨hram, hprgRam, hprgRom, hchr, hoam, hpalette, hvram⟩ := h
  cases c <;> simp only [readPlace, *]

/-- The state with the byte at a place replaced. -/
def writePlace (c : Place) (v : Byte) (s : State) : State :=
  match c with
  | .ram k => { s with ram := Memory.write s.ram k v }
  | .prgRam k => { s with prgRam := Memory.write s.prgRam k v }
  | .prgRom k => { s with prgRom := Memory.write s.prgRom k v }
  | .chr k => { s with chr := Memory.write s.chr k v }
  | .oam k => { s with oam := Memory.write s.oam k v }
  | .palette k => { s with palette := Memory.write s.palette k v }
  | .vram k => { s with vram := Memory.write s.vram k v }

/-- What every place reads as after the byte at one is replaced. -/
theorem readPlace_writePlace (c d : Place) (v : Byte) (s : State) :
    readPlace c (writePlace d v s) = if c = d then v else readPlace c s := by
  cases d <;> cases c <;> simp [readPlace, writePlace, Memory.read_write]

/-- A state with the memories of `s`, but for the byte at a place, reads as `s` at every other place. -/
theorem readPlace_eq_of_store {c d : Place} {v : Byte} {s t : State} (h : memories t = memories (writePlace d v s))
    (hc : c ≠ d) : readPlace c t = readPlace c s :=
  (readPlace_eq_of_memories h c).trans (by rw [readPlace_writePlace, if_neg hc])

/-! The accesses. -/

theorem memories_of_cpuOnly {s t : State} (h : CpuOnly s t) : memories t = memories s := by
  rw [h]
  rfl

/-- A read changes no byte of a memory (R109). -/
theorem memories_readEffect (addr : Addr) (s : State) : memories (readEffect addr s) = memories s := by
  rw [readEffect_state]
  rfl

/-- The PPU bus access of a PPUDATA write stores at the place v names, if it can be written (R110, R466, R555). -/
theorem ppuWrite_ppuPlace (d : Byte) (s : State) :
    ppuWrite (BitVec.ofNat 16 (s.ppu.v.toNat % 0x4000)) d s =
      match ppuPlace s with
      | some c => writePlace c d s
      | none => s := by
  have haddr : (BitVec.ofNat 16 (s.ppu.v.toNat % 0x4000)).toNat % 0x4000 = s.ppu.v.toNat % 0x4000 := by
    rw [BitVec.toNat_ofNat]
    omega
  rcases Nat.lt_or_ge (s.ppu.v.toNat % 0x4000) 0x2000 with hchr | hchr
  · rw [ppuWrite_chr (by omega), haddr]
    simp only [ppuPlace]
    rw [if_pos (by omega)]
    cases hram : s.cart.chrIsRam with
    | true => exact mapperPpuWrite_ram hram
    | false => exact mapperPpuWrite_rom hram
  · rcases Nat.lt_or_ge (s.ppu.v.toNat % 0x4000) 0x3F00 with hvram | hvram
    · rw [ppuWrite_nametable (by omega) (by omega), haddr]
      simp only [ppuPlace]
      rw [if_neg (by omega), if_pos (by omega)]
      rfl
    · rw [ppuWrite_palette (by omega), haddr]
      simp only [ppuPlace]
      rw [if_neg (by omega), if_neg (by omega)]
      rfl

theorem readPlace_writePpuData {c : Place} (d : Byte) {s : State} (hc : ppuPlace s ≠ some c) :
    readPlace c (writePpuData d s) = readPlace c s := by
  have hmemories :
      memories (writePpuData d s) = memories (ppuWrite (BitVec.ofNat 16 (s.ppu.v.toNat % 0x4000)) d s) := by
    simp only [writePpuData, observePpu_eq]
    rfl
  rw [ppuWrite_ppuPlace] at hmemories
  cases hplace : ppuPlace s with
  | some p =>
    rw [hplace] at hmemories hc
    exact readPlace_eq_of_store hmemories fun h => hc (h ▸ rfl)
  | none =>
    rw [hplace] at hmemories
    exact readPlace_eq_of_memories hmemories c

/-- A PPU register write changes the OAM byte of OAMADDR through OAMDATA, the byte that v names through PPUDATA, and no other (R463, R466). -/
theorem readPlace_ppuRegWrite {c : Place} {r : Nat} (d : Byte) {s : State}
    (hoam : r = 4 → c ≠ .oam s.ppu.oamAddr.toNat) (hdata : r = 7 → ppuPlace s ≠ some c) :
    readPlace c (ppuRegWrite r d s) = readPlace c s := by
  unfold ppuRegWrite
  simp only
  split
  · exact readPlace_eq_of_memories rfl c
  · exact readPlace_eq_of_memories rfl c
  · exact readPlace_eq_of_memories rfl c
  · exact readPlace_eq_of_store (d := .oam s.ppu.oamAddr.toNat) (v := d) rfl (hoam rfl)
  · unfold writeScroll
    split <;> exact readPlace_eq_of_memories rfl c
  · unfold writePpuAddr
    split <;> exact readPlace_eq_of_memories rfl c
  · exact readPlace_writePpuData d (s := { s with ppu := { s.ppu with latch := d } }) (hdata rfl)
  · exact readPlace_eq_of_memories rfl c

/-- An OAM DMA changes OAM only (R473). -/
theorem readPlace_dmaEffect {c : Place} (page : Byte) (s : State) (hc : ∀ k, c ≠ .oam k) :
    readPlace c (dmaEffect page s) = readPlace c s := by
  rw [dmaEffect_state]
  cases c with
  | oam k => exact absurd rfl (hc k)
  | _ => rfl

/-- A mapper write changes a byte of PRG-RAM or none (R553, R557). -/
theorem readPlace_mapperCpuWrite {c : Place} {n : Nat} (v : Byte) {s : State} (hn : n ≤ 0xFFFF)
    (hc : n ≤ 0x7FFF → c ≠ .prgRam (n - 0x6000)) : readPlace c (mapperCpuWrite n v s) = readPlace c s := by
  rw [mapperCpuWrite_cases n v s hn]
  split
  · next hlow => exact readPlace_eq_of_store (d := .prgRam (n - 0x6000)) (v := v) rfl (hc hlow)
  · split <;> exact readPlace_eq_of_memories rfl c

theorem unmapped_eq_false_of_busWrite {addr : Addr} {v : Byte} {s t : State} (h : busWrite addr v s = .ok () t) :
    unmapped addr = false := by
  cases hu : unmapped addr with
  | false => rfl
  | true =>
    rw [busWrite_unmapped _ _ _ hu] at h
    cases h

/-- A CPU write that answers changes the bytes that it may touch only (R102). -/
theorem readPlace_of_busWrite {c : Place} {addr : Addr} {v : Byte} {s t : State} (h : busWrite addr v s = .ok () t)
    (hc : writeTouches addr s c = false) : readPlace c t = readPlace c s := by
  have hmapped := unmapped_eq_false_of_busWrite h
  have hn : addr.toNat ≤ 0xFFFF := Nat.le_of_lt_succ addr.isLt
  rw [busWrite_ok_state h]
  simp only [writeTouches] at hc
  simp only [writeEffect]
  split_ifs with hram hppu hdma hstrobe hignored
  · exact readPlace_eq_of_store (d := .ram (addr.toNat % 0x800)) (v := v) rfl (by simpa [hram] using hc)
  · refine readPlace_ppuRegWrite v (fun hr => ?_) (fun hr => ?_)
    · simpa [hram, hppu, hr] using hc
    · simpa [hram, hppu, hr] using hc
  · refine readPlace_dmaEffect v s fun k hk => ?_
    simp [hppu, hdma, hk] at hc
  · exact readPlace_eq_of_memories rfl c
  · rfl
  · refine readPlace_mapperCpuWrite v hn fun hlow => ?_
    have hprgRam : 0x6000 ≤ addr.toNat ∧ addr.toNat ≤ 0x7FFF := by
      simp only [unmapped, Bool.and_eq_false_iff, decide_eq_false_iff_not] at hmapped
      omega
    simpa [hram, hppu, hdma, hprgRam] using hc

/-- A read has the same side effect whatever the program counter and the cycle count are. -/
theorem readEffect_advance (addr : Addr) (len cyc : Nat) (s : State) :
    readEffect addr (advance len cyc s) = advance len cyc (readEffect addr s) := by
  have ppuReg (r : Nat) : (ppuRegRead r (advance len cyc s)).2 = advance len cyc (ppuRegRead r s).2 := by
    unfold ppuRegRead
    split
    · rfl
    · rfl
    · simp only [readPpuData, observeRead_eq]
      rfl
    · rfl
  simp only [readEffect, ppuReg]
  split_ifs <;> rfl

/-- A write may touch the same bytes after the CPU's own updates. -/
theorem writeTouches_of_cpuOnly {s t : State} (h : CpuOnly s t) (addr : Addr) (c : Place) :
    writeTouches addr t c = writeTouches addr s c := by
  rw [h]
  rfl

/-! The stack. -/

/-- The slots below SP move with it. -/
theorem stackPlace_pushed (v : Byte) (s : State) {k : Nat} (hk : k < 256) :
    stackPlace (pushed v s) k = stackPlace s (k + 1) := by
  have hsp : (s.sp - 1).toNat = (s.sp.toNat + 255) % 256 := by
    rw [BitVec.toNat_sub, Nat.add_comm]
    rfl
  simp only [stackPlace, pushed, hsp]
  congr 2
  omega

/-- A push changes the byte in its slot only (R15). -/
theorem readPlace_pushed {c : Place} {s : State} (v : Byte) (hc : c ≠ stackPlace s 0) :
    readPlace c (pushed v s) = readPlace c s := by
  have hslot : stackPlace s 0 = .ram (0x100 + s.sp.toNat) := by
    have := s.sp.isLt
    simp only [stackPlace]
    congr 2
    omega
  rw [hslot] at hc
  exact readPlace_eq_of_store (v := v) rfl hc

/-! The shapes of instruction. -/

section Shapes

variable {base : Nat} {c : Place} {s t : State}

theorem readPlace_of_impliedInstr {f : State → State} (h : impliedInstr base f s = .next t)
    (hf : ∀ u, CpuOnly u (f u)) : readPlace c t = readPlace c s := by
  cases h
  exact readPlace_eq_of_memories (memories_of_cpuOnly (hf _)) c

/-- A read instruction that answers has its effect on the state after its operand is read. -/
theorem eq_of_readInstr {o : ReadOp} {f : Byte → State → State} (h : readInstr base o f s = .next t) :
    t = f (o.value s) (o.after base s) := by
  cases hmapped : o.mapped s with
  | true =>
    rw [readInstr_next _ _ _ _ hmapped] at h
    cases h
    rfl
  | false =>
    rw [readInstr_fault _ _ _ _ hmapped] at h
    cases h

theorem memories_after (base : Nat) (o : ReadOp) (s : State) : memories (o.after base s) = memories s := by
  cases o with
  | imm b => rfl
  | mem m => exact memories_readEffect _ _

theorem IsRead.readPlace_eq {g : Nat → ReadOp → State → Outcome} {o : ReadOp} (hg : IsRead g)
    (h : g base o s = .next t) : readPlace c t = readPlace c s := by
  obtain ⟨f, hg, hf⟩ := hg
  rw [hg] at h
  rw [eq_of_readInstr h]
  exact readPlace_eq_of_memories ((memories_of_cpuOnly (hf _ _)).trans (memories_after base o s)) c

/-- A write instruction that answers ends with its write. -/
theorem busWrite_of_storeInstr {m : MemOp} {value : State → Byte} (h : storeInstr base m value s = .next t) :
    ∃ v, busWrite (eaOf m s) v (advance m.length base s) = .ok () t := by
  obtain ⟨ea, u, hea, h⟩ := Res.finish_next h
  rw [resolve_eq] at hea
  cases hea
  obtain ⟨_, u, hwrite, h⟩ := Res.finish_next h
  cases h
  exact ⟨_, hwrite⟩

theorem IsStore.readPlace_eq {g : Nat → MemOp → State → Outcome} {m : MemOp} (hg : IsStore g)
    (h : g base m s = .next t) (hc : writeTouches (eaOf m.joined s) s c = false) :
    readPlace c t = readPlace c s := by
  obtain ⟨value, hg⟩ := hg
  rw [hg] at h
  rw [MemOp.joined_eq] at hc
  obtain ⟨v, hwrite⟩ := busWrite_of_storeInstr h
  rw [readPlace_of_busWrite hwrite hc]
  exact readPlace_eq_of_memories rfl c

/-- A read-modify-write instruction that answers writes, after its read, and then has its effect. -/
theorem busWrite_of_rmwInstr {m : MemOp} {modify : Byte → Bool → Modified} {after : Byte → State → State}
    (h : rmwInstr base m modify after s = .next t) :
    ∃ r u w, CpuOnly (readEffect (eaOf m s) s) u ∧ busWrite (eaOf m s) r u = .ok () w ∧ t = after r w := by
  obtain ⟨ea, u, hea, h⟩ := Res.finish_next h
  rw [resolve_eq] at hea
  cases hea
  obtain ⟨v, u, hread, h⟩ := Res.finish_next h
  obtain ⟨_, w, hwrite, h⟩ := Res.finish_next h
  cases h
  obtain rfl := busRead_ok_state hread
  rw [readEffect_advance] at hwrite ⊢
  exact ⟨_, _, w, by rfl, hwrite, rfl⟩

theorem IsModify.readPlace_eq {g : Nat → MemOp → State → Outcome} {m : MemOp} (hg : IsModify g)
    (h : g base m s = .next t) (hc : writeTouches (eaOf m.joined s) (readEffect (eaOf m.joined s) s) c = false) :
    readPlace c t = readPlace c s := by
  obtain ⟨modify, after, hg, hafter⟩ := hg
  rw [hg] at h
  rw [MemOp.joined_eq] at hc
  obtain ⟨r, u, w, hcpu, hwrite, rfl⟩ := busWrite_of_rmwInstr h
  calc readPlace c (after r w)
      = readPlace c w := readPlace_eq_of_memories (memories_of_cpuOnly (hafter r w)) c
    _ = readPlace c u := readPlace_of_busWrite hwrite ((writeTouches_of_cpuOnly hcpu _ c).trans hc)
    _ = readPlace c s :=
      readPlace_eq_of_memories ((memories_of_cpuOnly hcpu).trans (memories_readEffect _ s)) c

theorem IsShift.readPlace_acc_eq {g : Nat → ShiftOp → State → Outcome} (hg : IsShift g)
    (h : g base .acc s = .next t) : readPlace c t = readPlace c s := by
  obtain ⟨modify, hg⟩ := hg
  rw [hg] at h
  cases h
  exact readPlace_eq_of_memories rfl c

theorem readPlace_of_branchInstr {cond : Flags → Bool} {off : Byte} (h : branchInstr cond off s = .next t) :
    readPlace c t = readPlace c s := by
  simp only [branchInstr] at h
  split at h
  · cases h
    exact readPlace_eq_of_memories rfl c
  · cases h
    exact readPlace_eq_of_memories rfl c

/-- The meaning of PHA and PHP (R260, R261). -/
theorem readPlace_of_pushInstr {v : Byte} (h : ((push v (advance 1 base s)).finish fun _ u => .next u) = .next t)
    (hc : c ≠ stackPlace s 0) : readPlace c t = readPlace c s := by
  rw [push_eq] at h
  cases h
  exact (readPlace_pushed v hc).trans (readPlace_eq_of_memories rfl c)

/-- The meaning of PLA and PLP (R262, R263). -/
theorem readPlace_of_pullInstr {f : Byte → State → State}
    (h : ((pull (advance 1 base s)).finish fun v u => .next (f v u)) = .next t) (hf : ∀ v u, CpuOnly u (f v u)) :
    readPlace c t = readPlace c s := by
  rw [pull_eq] at h
  cases h
  exact readPlace_eq_of_memories (memories_of_cpuOnly (hf _ _)) c

theorem readPlace_pushed_pushed (lo hi : Byte) (h0 : c ≠ stackPlace s 0) (h1 : c ≠ stackPlace s 1) :
    readPlace c (pushed lo (pushed hi s)) = readPlace c s := by
  rw [readPlace_pushed lo (by rwa [stackPlace_pushed hi s (by decide)]), readPlace_pushed hi h0]

theorem readPlace_of_jsrAbs {w : Addr} (h : execJsrAbs w s = .next t) (h0 : c ≠ stackPlace s 0)
    (h1 : c ≠ stackPlace s 1) : readPlace c t = readPlace c s := by
  simp only [execJsrAbs] at h
  rw [push16_eq] at h
  cases h
  exact readPlace_pushed_pushed (s := advance 3 6 s) _ _ h0 h1

/-- Taking an interrupt pushes three bytes (R333, R413, R414). -/
theorem readPlace_interrupted (ret : Addr) (status : Byte) (vector : Nat) (h0 : c ≠ stackPlace s 0)
    (h1 : c ≠ stackPlace s 1) (h2 : c ≠ stackPlace s 2) :
    readPlace c (interrupted ret status vector s) = readPlace c s := by
  have hslot : c ≠ stackPlace (pushed (lowByte ret) (pushed (highByte ret) s)) 0 := by
    rwa [stackPlace_pushed _ _ (by decide), stackPlace_pushed _ _ (by decide)]
  calc readPlace c (interrupted ret status vector s)
      = readPlace c (pushed status (pushed (lowByte ret) (pushed (highByte ret) s))) := readPlace_eq_of_memories rfl c
    _ = readPlace c (pushed (lowByte ret) (pushed (highByte ret) s)) := readPlace_pushed status hslot
    _ = readPlace c s := readPlace_pushed_pushed _ _ h0 h1

theorem readPlace_of_brk (h : execBrk s = .next t) (h0 : c ≠ stackPlace s 0) (h1 : c ≠ stackPlace s 1)
    (h2 : c ≠ stackPlace s 2) : readPlace c t = readPlace c s := by
  simp only [execBrk] at h
  rw [takeInterrupt_eq _ _ _ _ (by decide) (by decide)] at h
  cases h
  exact readPlace_interrupted (s := advance 1 7 s) _ _ _ h0 h1 h2

theorem readPlace_of_jmpInd {w : Addr} (h : execJmpInd w s = .next t) : readPlace c t = readPlace c s := by
  obtain ⟨target, u, hptr, h⟩ := Res.finish_next h
  cases h
  obtain ⟨lo, u1, hlo, hptr⟩ := Res.andThen_ok hptr
  obtain ⟨hi, u2, hhi, hptr⟩ := Res.andThen_ok hptr
  cases hptr
  obtain rfl := busRead_ok_state hlo
  obtain rfl := busRead_ok_state hhi
  exact readPlace_eq_of_memories ((memories_readEffect _ _).trans (memories_readEffect _ s)) c

end Shapes

/-- Settles O55: each shape of instruction changes the bytes it stores or pushes, and those are the ones `touches` names. -/
theorem memoryFrame : Obligations.MemoryFrame := by
  unfold Obligations.MemoryFrame
  intro i s t c h hc
  cases i
  all_goals simp only [exec] at h
  case ldaIzx | ldaZp | ldaImm | ldaAbs | ldaIzy | ldaZpx | ldaAby | ldaAbx => exact isRead_lda.readPlace_eq h
  case ldxImm | ldxZp | ldxAbs | ldxZpy | ldxAby => exact isRead_ldx.readPlace_eq h
  case ldyImm | ldyZp | ldyAbs | ldyZpx | ldyAbx => exact isRead_ldy.readPlace_eq h
  case staIzx | staZp | staAbs | staIzy | staZpx | staAby | staAbx =>
    exact isStore_sta.readPlace_eq h hc
  case stxZp | stxAbs | stxZpy => exact isStore_stx.readPlace_eq h hc
  case styZp | styAbs | styZpx => exact isStore_sty.readPlace_eq h hc
  case tax | tay | txa | tya | tsx | txs | inx | iny | dex | dey | clc | sec | cli | sei | cld | sed | clv | nop =>
    exact readPlace_of_impliedInstr h fun _ => rfl
  case adcIzx | adcZp | adcImm | adcAbs | adcIzy | adcZpx | adcAby | adcAbx => exact isRead_adc.readPlace_eq h
  case sbcIzx | sbcZp | sbcImm | sbcAbs | sbcIzy | sbcZpx | sbcAby | sbcAbx => exact isRead_sbc.readPlace_eq h
  case andIzx | andZp | andImm | andAbs | andIzy | andZpx | andAby | andAbx =>
    exact isRead_andA.readPlace_eq h
  case oraIzx | oraZp | oraImm | oraAbs | oraIzy | oraZpx | oraAby | oraAbx => exact isRead_ora.readPlace_eq h
  case eorIzx | eorZp | eorImm | eorAbs | eorIzy | eorZpx | eorAby | eorAbx => exact isRead_eor.readPlace_eq h
  case bitZp | bitAbs => exact isRead_bitTest.readPlace_eq h
  case cmpIzx | cmpZp | cmpImm | cmpAbs | cmpIzy | cmpZpx | cmpAby | cmpAbx => exact isRead_cmp.readPlace_eq h
  case cpxImm | cpxZp | cpxAbs => exact isRead_cpx.readPlace_eq h
  case cpyImm | cpyZp | cpyAbs => exact isRead_cpy.readPlace_eq h
  case incZp | incAbs | incZpx | incAbx => exact isModify_inc.readPlace_eq h hc
  case decZp | decAbs | decZpx | decAbx => exact isModify_dec.readPlace_eq h hc
  case aslZp | aslAbs | aslZpx | aslAbx => exact isShift_asl.isModify.readPlace_eq h hc
  case aslAcc => exact isShift_asl.readPlace_acc_eq h
  case lsrZp | lsrAbs | lsrZpx | lsrAbx => exact isShift_lsr.isModify.readPlace_eq h hc
  case lsrAcc => exact isShift_lsr.readPlace_acc_eq h
  case rolZp | rolAbs | rolZpx | rolAbx => exact isShift_rol.isModify.readPlace_eq h hc
  case rolAcc => exact isShift_rol.readPlace_acc_eq h
  case rorZp | rorAbs | rorZpx | rorAbx => exact isShift_ror.isModify.readPlace_eq h hc
  case rorAcc => exact isShift_ror.readPlace_acc_eq h
  case pha | php => exact readPlace_of_pushInstr h (of_decide_eq_false hc)
  case pla | plp => exact readPlace_of_pullInstr h fun _ _ => rfl
  case bpl | bmi | bvc | bvs | bcc | bcs | bne | beq => exact readPlace_of_branchInstr h
  case jmpAbs =>
    cases h
    exact readPlace_eq_of_memories rfl c
  case jmpInd => exact readPlace_of_jmpInd h
  case jsrAbs =>
    simp only [touches, Instr.mn, Bool.or_eq_false_iff, decide_eq_false_iff_not] at hc
    obtain ⟨h0, h1⟩ := hc
    exact readPlace_of_jsrAbs h h0 h1
  case brk =>
    simp only [touches, Instr.mn, Bool.or_eq_false_iff, decide_eq_false_iff_not, and_assoc] at hc
    obtain ⟨h0, h1, h2⟩ := hc
    exact readPlace_of_brk h h0 h1 h2
  case rts =>
    rw [execRts, pull16_eq] at h
    cases h
    exact readPlace_eq_of_memories rfl c
  case rti =>
    rw [execRti, returnFromInterrupt_eq] at h
    cases h
    exact readPlace_eq_of_memories rfl c
  case nop04 | nop0C | nop14 | nop1C | nop34 | nop3C | nop44 | nop54 | nop5C | nop64 | nop74 | nop7C | nop80 |
      nop82 | nop89 | nopC2 | nopD4 | nopDC | nopE2 | nopF4 | nopFC =>
    exact isRead_nopRead.readPlace_eq (gated_next h)
  case nop1A | nop3A | nop5A | nop7A | nopDA | nopFA => exact readPlace_of_impliedInstr (gated_next h) fun _ => rfl
  case laxIzx | laxZp | laxAbs | laxIzy | laxZpy | laxAby => exact isRead_lax.readPlace_eq (gated_next h)
  case saxIzx | saxZp | saxAbs | saxZpy => exact isStore_sax.readPlace_eq (gated_next h) hc
  case sbcImmEB => exact isRead_sbc.readPlace_eq (gated_next h)
  case dcpIzx | dcpZp | dcpAbs | dcpIzy | dcpZpx | dcpAby | dcpAbx =>
    exact isModify_dcp.readPlace_eq (gated_next h) hc
  case isbIzx | isbZp | isbAbs | isbIzy | isbZpx | isbAby | isbAbx =>
    exact isModify_isb.readPlace_eq (gated_next h) hc
  case sloIzx | sloZp | sloAbs | sloIzy | sloZpx | sloAby | sloAbx =>
    exact isModify_slo.readPlace_eq (gated_next h) hc
  case rlaIzx | rlaZp | rlaAbs | rlaIzy | rlaZpx | rlaAby | rlaAbx =>
    exact isModify_rla.readPlace_eq (gated_next h) hc
  case sreIzx | sreZp | sreAbs | sreIzy | sreZpx | sreAby | sreAbx =>
    exact isModify_sre.readPlace_eq (gated_next h) hc
  case rraIzx | rraZp | rraAbs | rraIzy | rraZpx | rraAby | rraAbx =>
    exact isModify_rra.readPlace_eq (gated_next h) hc
  case anc0B | anc2B | alrImm | arrImm | aneImm | lxaImm | sbxImm | shaIzy | shaAby | shyAbx | shxAby | tasAby |
      lasAby | jam02 | jam12 | jam22 | jam32 | jam42 | jam52 | jam62 | jam72 | jam92 | jamB2 | jamD2 | jamF2 =>
    exact absurd h (illegalInstr_ne_next _ _ _)

end Sys2Proof.Machine
end

section
/-! SUPPORT. The OAM DMA that stops, and an instruction of each shape in the form in which the per-instruction statements say what it does (spec/61_ppu.md R473, R474, spec/40_step_addressing.md R201, R221). -/

namespace Sys2Proof.Machine

/-! The OAM DMA from a page that holds an unmapped address. -/

/-- The copy loop over source bytes of which the first `n` are mapped: it copies them and goes on behind them. -/
theorem oamCopy_add {page : Byte} {n k i : Nat} (s : State)
    (h : ∀ j, i ≤ j → j < i + n → unmapped (word16 page (BitVec.ofNat 8 j)) = false) :
    oamCopy page (n + k) i s = oamCopy page k (i + n) ((List.range' i n).foldl (dmaByte page) s) := by
  induction n generalizing i s with
  | zero => rw [Nat.zero_add]; rfl
  | succ n ih =>
    have hmapped := h i le_rfl (by omega)
    have hrest := ih (dmaByte page s i) fun j (hj : i + 1 ≤ j) hlt => h j (by omega) (by omega)
    rw [Nat.add_assoc i, Nat.add_comm 1] at hrest
    rw [Nat.add_right_comm, oamCopy, busRead_mapped _ _ hmapped]
    exact hrest

/-- How many source bytes of a faulting page are copied: those of 0x4000 to 0x4020, and none of a later page (R474). -/
def dmaStopIndex (page : Byte) : Nat := if page.toNat = 0x40 then 33 else 0

theorem dmaStop_eq (page : Byte) (s : State) :
    dmaStop page s = raiseUnmapped (word16 page (BitVec.ofNat 8 (dmaStopIndex page))) .read
      ((List.range (dmaStopIndex page)).foldl (dmaByte page) s) := rfl

theorem dmaStopIndex_le (page : Byte) : dmaStopIndex page ≤ 33 := by
  unfold dmaStopIndex
  split <;> omega

/-- The address of a source byte of a page (R473). -/
theorem dmaSource_toNat (page : Byte) {j : Nat} (hj : j < 256) :
    (word16 page (BitVec.ofNat 8 j)).toNat = page.toNat * 256 + j := by
  rw [word16_toNat, BitVec.toNat_ofNat, Nat.mod_eq_of_lt hj]

theorem unmapped_dmaSource_of_lt {page : Byte} {j : Nat} (hj : j < dmaStopIndex page) :
    unmapped (word16 page (BitVec.ofNat 8 j)) = false := by
  have hle := dmaStopIndex_le page
  rw [Bool.eq_false_iff, ne_eq, unmapped_iff, dmaSource_toNat page (by omega)]
  unfold dmaStopIndex at hj
  split at hj <;> omega

theorem unmapped_dmaSource_stop {page : Byte} (h : dmaFaults page = true) :
    unmapped (word16 page (BitVec.ofNat 8 (dmaStopIndex page))) = true := by
  have hle := dmaStopIndex_le page
  simp only [dmaFaults, Bool.and_eq_true, decide_eq_true_eq] at h
  rw [unmapped_iff, dmaSource_toNat page (by omega), dmaStopIndex]
  split <;> omega

/-- An OAM DMA from a page that holds an unmapped address stops there, with the bytes before it copied (R474). -/
theorem oamDma_stop {page : Byte} (s : State) (h : dmaFaults page = true) : oamDma page s = .fault (dmaStop page s) := by
  have hcount : 256 = dmaStopIndex page + (255 - dmaStopIndex page + 1) := by
    have := dmaStopIndex_le page
    omega
  have hcopy : oamCopy page 256 0 s = .fault (dmaStop page s) := by
    rw [hcount, oamCopy_add s fun j _ hj => unmapped_dmaSource_of_lt (by omega), Nat.zero_add, oamCopy,
      busRead_unmapped _ _ (unmapped_dmaSource_stop h), dmaStop_eq, List.range_eq_range']
    rfl
  rw [oamDma, hcopy]
  rfl

/-- A write instruction whose OAM DMA stops. -/
theorem storeInstr_dmaStop (base : Nat) (m : MemOp) (value : State → Byte) (s : State)
    (haddr : (eaOf m s).toNat = 0x4014) (h : dmaFaults (value (advance m.length base s)) = true) :
    storeInstr base m value s =
      .fault (dmaStop (value (advance m.length base s)) (advance m.length base s)) := by
  simp only [storeInstr, resolve_eq, Res.finish, busWrite_oamDma _ _ _ haddr, oamDma_stop _ h]

/-! An instruction of each shape. -/

section Shapes

variable {legal : State → Bool} {i : Instr} {op : Byte} {base : Nat}

theorem impliedAs_of_exec {effect : State → State} (hop : opcodeOf i = op)
    (hexec : ∀ s, legal s = true → exec i s = impliedInstr base effect s) : ImpliedAs legal effect i op base :=
  ⟨hop, hexec⟩

theorem readsAs_of_exec {effect : Byte → State → State} {o : ReadOp} (hop : opcodeOf i = op)
    (hexec : ∀ s, legal s = true → exec i s = readInstr base o effect s) : ReadsAs legal effect i op base o := by
  refine ⟨hop, fun s hs => ?_⟩
  rw [hexec s hs]
  exact ⟨readInstr_next base o effect s, readInstr_fault base o effect s⟩

/-- The value stored is one that the PC advance and the cycle charge leave. -/
theorem writesAs_of_exec {value : State → Byte} {m : MemOp} (hop : opcodeOf i = op)
    (hexec : ∀ s, legal s = true → exec i s = storeInstr base m value s)
    (hvalue : ∀ len cyc s, value (advance len cyc s) = value s := by intros; rfl) :
    WritesAs legal value i op base m := by
  refine ⟨hop, fun s hs => ?_⟩
  rw [hexec s hs, ← hvalue m.length base s]
  exact ⟨storeInstr_next base m value s, storeInstr_fault base m value s, storeInstr_dmaStop base m value s⟩

end Shapes

end Sys2Proof.Machine
end

section
/-! PROOF. The loads, the stores, the transfers and the register increments and decrements (spec/41_load_store_transfer.md R231 to R242, spec/44_inc_dec_shift.md R302 to R305). -/

namespace Sys2Proof.Machine

/-- Settles O40: each form is a read instruction whose effect is the one its mnemonic shares. -/
theorem loads : Obligations.Loads := by
  unfold Obligations.Loads
  intro b w lda ldx ldy
  refine ⟨?_, ?_, ?_, ?_, ?_, ?_, ?_, ?_, ?_, ?_, ?_, ?_, ?_, ?_, ?_, ?_, ?_, ?_⟩ <;>
    exact readsAs_of_exec rfl fun _ _ => rfl

/-- Settles O41: each form is a write instruction of its register. -/
theorem stores : Obligations.Stores := by
  unfold Obligations.Stores
  intro b w
  refine ⟨?_, ?_, ?_, ?_, ?_, ?_, ?_, ?_, ?_, ?_, ?_, ?_, ?_⟩ <;> exact writesAs_of_exec rfl fun _ _ => rfl

/-! One up and one down, in arithmetic on numbers. -/

theorem ofNat_toNat_add_one (r : Byte) : BitVec.ofNat 8 (r.toNat + 1) = r + 1 := by
  rw [BitVec.ofNat_add, BitVec.ofNat_toNat, BitVec.setWidth_eq]
  rfl

theorem ofNat_toNat_add_255 (r : Byte) : BitVec.ofNat 8 (r.toNat + 255) = r - 1 := by
  rw [BitVec.ofNat_add, BitVec.ofNat_toNat, BitVec.setWidth_eq, BitVec.sub_eq_add_neg]
  rfl

/-- Settles O42: each is an implied instruction with the effect of its rule, one up or down being addition mod 256. -/
theorem registerInstructions : Obligations.RegisterInstructions := by
  unfold Obligations.RegisterInstructions
  simp only [ofNat_toNat_add_one, ofNat_toNat_add_255]
  refine ⟨?_, ?_, ?_, ?_, ?_, ?_, ?_, ?_, ?_, ?_⟩ <;> exact impliedAs_of_exec rfl fun _ _ => rfl

end Sys2Proof.Machine
end

section
/-! PROOF. The stack instructions (spec/42_stack.md R260 to R263). -/

namespace Sys2Proof.Machine

/-- The pushed status byte in arithmetic: bits 5 and 4 count 48 whatever U and B hold (R37, R261). -/
theorem breakStatus_eq_ofNat (p : Flags) :
    breakStatus p = BitVec.ofNat 8 (128 * p.n.toNat + 64 * p.v.toNat + 48 + 8 * p.d.toNat + 4 * p.i.toNat +
      2 * p.z.toNat + p.c.toNat) := by
  obtain ⟨n, v, u, b, d, i, z, c⟩ := p
  revert n v u b d i z c
  decide

/-- An instruction that only pushes always completes (R260). -/
theorem pushInstr_eq (v : Byte) (base : Nat) (s : State) :
    ((push v (advance 1 base s)).finish fun _ t => .next t) = .next (pushed v (advance 1 base s)) := by
  rw [push_eq]
  rfl

/-- An instruction that pulls a byte and puts it somewhere always completes (R262). -/
theorem pullInstr_eq (f : Byte → State → State) (base : Nat) (s : State) :
    ((pull (advance 1 base s)).finish fun v t => .next (f v t)) =
      .next (f (stackByte s 1) { advance 1 base s with sp := s.sp + 1 }) := by
  rw [pull_eq]
  rfl

/-- Settles O43: PHA and PHP are a push, PLA and PLP a pull, and neither ever faults. -/
theorem stackInstructions : Obligations.StackInstructions := by
  unfold Obligations.StackInstructions
  refine ⟨rfl, rfl, rfl, rfl, fun s => ⟨?pha, ?php, ?pla, ?plp⟩⟩
  case pha => exact pushInstr_eq s.a 3 s
  case php =>
    rw [← breakStatus_eq_ofNat]
    exact pushInstr_eq (breakStatus s.p) 3 s
  case pla => exact pullInstr_eq (fun v t => { t with a := v, p := t.p.setZN v }) 4 s
  case plp => exact pullInstr_eq (fun v t => { t with p := Flags.ofByte v }) 4 s

end Sys2Proof.Machine
end

section
/-! SUPPORT. The adder and the comparison in arithmetic on numbers, and as the effects that the instructions built on them share (spec/43_arithmetic_logic.md R270 to R272, R278). -/

namespace Sys2Proof.Machine

/-- The sign bit of a byte, as a bound on its value. -/
theorem getLsbD_seven_eq_decide (v : Byte) : v.getLsbD 7 = decide (128 ≤ v.toNat) :=
  v.msb_eq_getLsbD_last.symm.trans v.msb_eq_decide

theorem decide_and_signBit_ne_zero (v : Byte) : decide (v &&& 0x80#8 ≠ 0) = v.getLsbD 7 := by
  rw [show (0x80#8) = BitVec.twoPow 8 7 from rfl, BitVec.and_twoPow]
  cases v.getLsbD 7 <;> rfl

/-! The adder. -/

/-- V is set when the addends have one sign bit and the result has the other (R270). -/
theorem addCore_vout (x y : Byte) (c : Bool) :
    (addCore x y c).vout =
      (x.getLsbD 7 == y.getLsbD 7 && (addCore x y c).r.getLsbD 7 != x.getLsbD 7) := by
  have hbit : (addCore x y c).vout = ((x ^^^ (addCore x y c).r) &&& (y ^^^ (addCore x y c).r)).getLsbD 7 :=
    decide_and_signBit_ne_zero _
  rw [hbit, BitVec.getLsbD_and, BitVec.getLsbD_xor, BitVec.getLsbD_xor]
  cases x.getLsbD 7 <;> cases y.getLsbD 7 <;> cases (addCore x y c).r.getLsbD 7 <;> rfl

/-- V is the overflow of the sum of the addends read as signed numbers (R270). -/
theorem addCore_vout_eq_signedOverflow (x y : Byte) (c : Bool) :
    (addCore x y c).vout =
      decide (x.toInt + y.toInt + c.toNat < -128 ∨ 127 < x.toInt + y.toInt + c.toNat) := by
  have hr : (addCore x y c).r.toNat = (x.toNat + y.toNat + c.toNat) % 256 := BitVec.toNat_ofNat ..
  have hx := x.isLt
  have hy := y.isLt
  have hc := c.toNat_le
  rw [addCore_vout, Bool.eq_iff_iff]
  simp only [getLsbD_seven_eq_decide, hr, BitVec.toInt_eq_toNat_cond, Bool.and_eq_true, beq_iff_eq, bne_iff_ne, ne_eq,
    decide_eq_decide, decide_eq_true_eq]
  omega

theorem addCore_eq (x y : Byte) (c : Bool) : addCore x y c =
    ⟨BitVec.ofNat 8 (x.toNat + y.toNat + c.toNat), decide (255 < x.toNat + y.toNat + c.toNat),
      decide (x.toInt + y.toInt + c.toNat < -128 ∨ 127 < x.toInt + y.toInt + c.toNat)⟩ := by
  rw [← addCore_vout_eq_signedOverflow]
  rfl

/-! The adder on the complement of a byte, which subtracts (R272). -/

theorem xor_255_eq_not (m : Byte) : m ^^^ 0xFF#8 = ~~~m := BitVec.xor_allOnes

theorem xor_255_toNat (m : Byte) : (m ^^^ 0xFF#8).toNat = 255 - m.toNat := by
  rw [xor_255_eq_not, BitVec.toNat_not]

theorem addCore_complement_r (x m : Byte) (c : Bool) :
    (addCore x (m ^^^ 0xFF#8) c).r = BitVec.ofInt 8 (x.toNat - m.toNat - (1 - c.toNat)) := by
  have hm := m.isLt
  apply BitVec.eq_of_toNat_eq
  simp only [addCore, xor_255_toNat, BitVec.toNat_ofNat, BitVec.toNat_ofInt]
  omega

/-- C is the absence of a borrow. -/
theorem addCore_complement_cout (x m : Byte) (c : Bool) :
    (addCore x (m ^^^ 0xFF#8) c).cout = decide (0 ≤ (x.toNat : Int) - m.toNat - (1 - c.toNat)) := by
  have hm := m.isLt
  simp only [addCore, xor_255_toNat, decide_eq_decide]
  omega

/-- A difference overflows only where the operands have different sign bits. -/
theorem addCore_complement_vout (x m : Byte) (c : Bool) :
    (addCore x (m ^^^ 0xFF#8) c).vout =
      (x.getLsbD 7 != m.getLsbD 7 && (addCore x (m ^^^ 0xFF#8) c).r.getLsbD 7 != x.getLsbD 7) := by
  have hsign : (m ^^^ 0xFF#8).getLsbD 7 = !m.getLsbD 7 := by
    rw [xor_255_eq_not, BitVec.getLsbD_not]
    rfl
  rw [addCore_vout, hsign]
  cases x.getLsbD 7 <;> cases m.getLsbD 7 <;> rfl

/-! The effects. -/

theorem addToA_eq_withZN (m : Byte) (t : State) :
    addToA m t = withZN (addCore t.a m t.p.c).r { t with
      a := (addCore t.a m t.p.c).r
      p := { t.p with c := (addCore t.a m t.p.c).cout, v := (addCore t.a m t.p.c).vout } } := rfl

/-- Adding to A, in arithmetic (R271). -/
theorem addToA_eq_sumEffect : addToA = sumEffect := by
  funext m t
  rw [addToA_eq_withZN, addCore_vout]
  rfl

/-- Adding the complement to A, in arithmetic (R272). -/
theorem addToA_complement_eq_differenceEffect : (fun m t => addToA (m ^^^ 0xFF#8) t) = differenceEffect := by
  funext m t
  rw [addToA_eq_withZN, addCore_complement_vout, addCore_complement_cout, addCore_complement_r]
  rfl

theorem sub_eq_ofInt (r m : Byte) : r - m = BitVec.ofInt 8 ((r.toNat : Int) - m.toNat) := by
  have hm := m.isLt
  apply BitVec.eq_of_toNat_eq
  rw [BitVec.toNat_sub, BitVec.toNat_ofInt]
  omega

/-- Comparing, in arithmetic (R278). -/
theorem compare_eq_compareEffect (r m : Byte) (t : State) :
    { t with p := t.p.compare r m } = compareEffect r m t := by
  rw [Flags.compare, sub_eq_ofInt]
  rfl

end Sys2Proof.Machine
end

section
/-! PROOF. The arithmetic, logic, bit-test and compare instructions (spec/43_arithmetic_logic.md R270 to R281). -/

namespace Sys2Proof.Machine

/-- Settles O44: each form is a read instruction that adds to A the byte it reads, or its complement. -/
theorem addAndSubtract : Obligations.AddAndSubtract := by
  unfold Obligations.AddAndSubtract
  rw [← addToA_eq_sumEffect, ← addToA_complement_eq_differenceEffect]
  refine ⟨addCore_eq, fun b w => ⟨?_, ?_, ?_, ?_, ?_, ?_, ?_, ?_, ?_, ?_, ?_, ?_, ?_, ?_, ?_, ?_⟩⟩ <;>
    exact readsAs_of_exec rfl fun _ _ => rfl

/-- Settles O45: each form is a read instruction whose effect is the one its mnemonic shares. -/
theorem logicAndBitTest : Obligations.LogicAndBitTest := by
  unfold Obligations.LogicAndBitTest
  intro b w land lor lxor test
  refine ⟨?_, ?_, ?_, ?_, ?_, ?_, ?_, ?_, ?_, ?_, ?_, ?_, ?_, ?_, ?_, ?_, ?_, ?_, ?_, ?_, ?_, ?_, ?_, ?_, ?_, ?_⟩ <;>
    exact readsAs_of_exec rfl fun _ _ => rfl

/-- Settles O46: each form is a read instruction that compares its register with the byte it reads. -/
theorem compares : Obligations.Compares := by
  unfold Obligations.Compares
  simp only [← compare_eq_compareEffect]
  intro b w
  refine ⟨?_, ?_, ?_, ?_, ?_, ?_, ?_, ?_, ?_, ?_, ?_, ?_, ?_, ?_⟩ <;> exact readsAs_of_exec rfl fun _ _ => rfl

end Sys2Proof.Machine
end

section
/-! SUPPORT. A read-modify-write instruction, and a shift of A, in the form in which the per-instruction statements say what they do; what each mnemonic makes of its operand, in arithmetic on numbers (spec/40_step_addressing.md R201, R221, spec/44_inc_dec_shift.md R300 to R309, spec/61_ppu.md R473, R474). -/

namespace Sys2Proof.Machine

/-- A read-modify-write instruction whose OAM DMA stops: the carry is written by then. -/
theorem rmwInstr_dmaStop (base : Nat) (m : MemOp) (modify : Byte → Bool → Modified) (after : Byte → State → State)
    (s : State) (haddr : (eaOf m s).toNat = 0x4014)
    (h : dmaFaults (modify (readValue (eaOf m s) s) s.p.c).r = true) :
    rmwInstr base m modify after s = .fault (dmaStop (modify (readValue (eaOf m s) s) s.p.c).r
      { readEffect (eaOf m s) (advance m.length base s) with
        p := { s.p with c := (modify (readValue (eaOf m s) s) s.p.c).c } }) := by
  have hmapped : unmapped (eaOf m s) = false := by
    rw [Bool.eq_false_iff, ne_eq, unmapped_iff]
    omega
  simp only [rmwInstr, resolve_eq, Res.finish, busRead_mapped _ _ hmapped, readValue_advance, readEffect_p, advance_p,
    busWrite_oamDma _ _ _ haddr, oamDma_stop _ h]

/-! An instruction of each shape. -/

section Shapes

variable {legal : State → Bool} {i : Instr} {op : Byte} {base : Nat}
  {modify : Byte → Bool → Modified} {result : Byte → Bool → Byte} {carry : Byte → Bool → Bool}

theorem modifiesAs_of_exec {effect : Byte → State → State} {m : MemOp}
    (hmodify : ∀ v c, modify v c = ⟨result v c, carry v c⟩) (hop : opcodeOf i = op)
    (hexec : ∀ s, legal s = true → exec i s = rmwInstr base m modify effect s) :
    ModifiesAs legal result carry effect i op base m := by
  obtain rfl : result = fun v c => (modify v c).r := funext₂ fun v c => by rw [hmodify]
  obtain rfl : carry = fun v c => (modify v c).c := funext₂ fun v c => by rw [hmodify]
  refine ⟨hop, fun s hs => ?_⟩
  simp only [hexec s hs, readEffect_p, advance_p]
  exact ⟨rmwInstr_next base m modify effect s, rmwInstr_fault base m modify effect s,
    rmwInstr_dmaStop base m modify effect s⟩

/-- The accumulator form of a shift or rotate (R209). -/
theorem impliedAs_of_exec_shiftAcc (hmodify : ∀ v c, modify v c = ⟨result v c, carry v c⟩) (hop : opcodeOf i = op)
    (hexec : ∀ s, legal s = true → exec i s = shiftInstr base .acc modify s) :
    ImpliedAs legal (fun t => withZN (result t.a t.p.c)
      { t with a := result t.a t.p.c, p := { t.p with c := carry t.a t.p.c } }) i op base := by
  obtain rfl : modify = fun v c => ⟨result v c, carry v c⟩ := funext₂ hmodify
  exact impliedAs_of_exec hop hexec

end Shapes

/-! Doubling and halving a byte, and the old carry in the place of the bit shifted out. -/

theorem ofNat_two_mul_toNat (v : Byte) : BitVec.ofNat 8 (2 * v.toNat) = v <<< 1 := by
  rw [BitVec.shiftLeft_eq_mul_twoPow, BitVec.mul_comm, BitVec.ofNat_mul, BitVec.ofNat_toNat, BitVec.setWidth_eq]
  rfl

theorem ofNat_toNat_div_two (v : Byte) : BitVec.ofNat 8 (v.toNat / 2) = v >>> 1 := by
  apply BitVec.eq_of_toNat_eq
  rw [BitVec.toNat_ofNat, BitVec.toNat_ushiftRight, Nat.shiftRight_eq_div_pow]
  omega

/-- A shift left leaves bit 0 free for the carry. -/
theorem shiftLeft_one_and_bit (v : Byte) (c : Bool) : v <<< 1 &&& (BitVec.ofBool c).setWidth 8 = 0 := by
  apply BitVec.eq_of_getLsbD_eq
  intro i _
  cases i <;> simp

/-- A shift right leaves bit 7 free for the carry. -/
theorem shiftRight_one_and_bit (v : Byte) (c : Bool) : v >>> 1 &&& (BitVec.ofBool c).setWidth 8 <<< 7 = 0 := by
  apply BitVec.eq_of_getLsbD_eq
  intro i _
  obtain rfl | hlt : i = 7 ∨ i < 7 := by omega
  · simp
  · simp [hlt]

/-! What each mnemonic makes of its operand. -/

/-- The result INC stores (R300), C kept. -/
theorem increment_eq (v : Byte) (c : Bool) : (⟨v + 1, c⟩ : Modified) = ⟨BitVec.ofNat 8 (v.toNat + 1), c⟩ := by
  rw [ofNat_toNat_add_one]

/-- The result DEC stores (R301), C kept. -/
theorem decrement_eq (v : Byte) (c : Bool) : (⟨v - 1, c⟩ : Modified) = ⟨BitVec.ofNat 8 (v.toNat + 255), c⟩ := by
  rw [ofNat_toNat_add_255]

theorem shiftLeft_eq (v : Byte) (c : Bool) : shiftLeft v c = ⟨BitVec.ofNat 8 (2 * v.toNat), v.getLsbD 7⟩ := by
  rw [ofNat_two_mul_toNat, shiftLeft]

theorem shiftRight_eq (v : Byte) (c : Bool) : shiftRight v c = ⟨BitVec.ofNat 8 (v.toNat / 2), v.getLsbD 0⟩ := by
  rw [ofNat_toNat_div_two, shiftRight]

theorem rotateLeft_eq (v : Byte) (c : Bool) :
    rotateLeft v c = ⟨BitVec.ofNat 8 (2 * v.toNat + c.toNat), v.getLsbD 7⟩ := by
  rw [rotateLeft, ← BitVec.add_eq_or_of_and_eq_zero _ _ (shiftLeft_one_and_bit v c), BitVec.ofNat_add,
    ofNat_two_mul_toNat]
  cases c <;> rfl

theorem rotateRight_eq (v : Byte) (c : Bool) :
    rotateRight v c = ⟨BitVec.ofNat 8 (v.toNat / 2 + 128 * c.toNat), v.getLsbD 0⟩ := by
  rw [rotateRight, ← BitVec.add_eq_or_of_and_eq_zero _ _ (shiftRight_one_and_bit v c), BitVec.ofNat_add,
    ofNat_toNat_div_two]
  cases c <;> rfl

end Sys2Proof.Machine
end

section
/-! PROOF. The memory increments and decrements, the shifts and the rotates (spec/44_inc_dec_shift.md R300, R301, R306 to R309). -/

namespace Sys2Proof.Machine

/-- Settles O47: each memory form is a read-modify-write instruction of the arithmetic its mnemonic shares, and each accumulator form does that arithmetic on A. -/
theorem incrementsAndShifts : Obligations.IncrementsAndShifts := by
  unfold Obligations.IncrementsAndShifts
  intro b w asl lsr rol ror bit7 bit0 onA
  refine ⟨?incZp, ?incAbs, ?incZpx, ?incAbx, ?decZp, ?decAbs, ?decZpx, ?decAbx,
    ?aslAcc, ?aslZp, ?aslAbs, ?aslZpx, ?aslAbx, ?lsrAcc, ?lsrZp, ?lsrAbs, ?lsrZpx, ?lsrAbx,
    ?rolAcc, ?rolZp, ?rolAbs, ?rolZpx, ?rolAbx, ?rorAcc, ?rorZp, ?rorAbs, ?rorZpx, ?rorAbx⟩
  case incZp | incAbs | incZpx | incAbx => exact modifiesAs_of_exec increment_eq rfl fun _ _ => rfl
  case decZp | decAbs | decZpx | decAbx => exact modifiesAs_of_exec decrement_eq rfl fun _ _ => rfl
  case aslAcc => exact impliedAs_of_exec_shiftAcc shiftLeft_eq rfl fun _ _ => rfl
  case aslZp | aslAbs | aslZpx | aslAbx => exact modifiesAs_of_exec shiftLeft_eq rfl fun _ _ => rfl
  case lsrAcc => exact impliedAs_of_exec_shiftAcc shiftRight_eq rfl fun _ _ => rfl
  case lsrZp | lsrAbs | lsrZpx | lsrAbx => exact modifiesAs_of_exec shiftRight_eq rfl fun _ _ => rfl
  case rolAcc => exact impliedAs_of_exec_shiftAcc rotateLeft_eq rfl fun _ _ => rfl
  case rolZp | rolAbs | rolZpx | rolAbx => exact modifiesAs_of_exec rotateLeft_eq rfl fun _ _ => rfl
  case rorAcc => exact impliedAs_of_exec_shiftAcc rotateRight_eq rfl fun _ _ => rfl
  case rorZp | rorAbs | rorZpx | rorAbx => exact modifiesAs_of_exec rotateRight_eq rfl fun _ _ => rfl

end Sys2Proof.Machine
end

section
/-! SUPPORT. Bytes of a 16-bit value in arithmetic on numbers, a two-byte read by which of its addresses are mapped, and the vectors as CPU reads (spec/00_scope.md R14, R15, spec/40_step_addressing.md R207, spec/60_exceptions.md R410). -/

namespace Sys2Proof.Machine

/-! The bytes of a 16-bit value. -/

theorem highByte_eq_ofNat (w : Addr) : highByte w = BitVec.ofNat 8 (w.toNat / 256) := by
  apply BitVec.eq_of_toNat_eq
  rw [highByte, BitVec.extractLsb'_toNat, Nat.shiftRight_eq_div_pow, BitVec.toNat_ofNat]

theorem lowByte_eq_ofNat (w : Addr) : lowByte w = BitVec.ofNat 8 (w.toNat % 256) := by
  apply BitVec.eq_of_toNat_eq
  rw [lowByte, BitVec.extractLsb'_toNat, Nat.shiftRight_zero, BitVec.toNat_ofNat, Nat.mod_mod]

/-- The second pointer byte lies in the page of the first (R207). -/
theorem word16_highByte_lowByte_succ (w : Addr) :
    word16 (highByte w) (lowByte w + 1) = BitVec.ofNat 16 (256 * (w.toNat / 256) + (w.toNat + 1) % 256) := by
  have hhi : (highByte w).toNat = w.toNat / 256 := by
    have := w.isLt
    rw [highByte_eq_ofNat, BitVec.toNat_ofNat]
    omega
  have hlo : (lowByte w + 1).toNat = (w.toNat + 1) % 256 := by
    rw [lowByte_eq_ofNat, BitVec.toNat_add, BitVec.toNat_ofNat, show (1 : Byte).toNat = 1 from rfl]
    omega
  rw [word16_eq_ofNat, hhi, hlo, Nat.add_comm]

/-- One above the word that two bytes make (R331). -/
theorem word16_add_one (hi lo : Byte) : word16 hi lo + 1 = BitVec.ofNat 16 (lo.toNat + 256 * hi.toNat + 1) := by
  rw [word16_eq_ofNat, BitVec.ofNat_add (lo.toNat + 256 * hi.toNat) 1]
  rfl

/-! A two-byte read. -/

theorem readPair_mapped {lo hi : Addr} (s : State) (hlo : unmapped lo = false) (hhi : unmapped hi = false) :
    readPair lo hi s = .ok
      (BitVec.ofNat 16 ((readValue lo s).toNat + 256 * (readValue hi (readEffect lo s)).toNat))
      (readEffect hi (readEffect lo s)) := by
  simp only [readPair, busRead_mapped _ _ hlo, busRead_mapped _ _ hhi, Res.andThen, word16_eq_ofNat]

theorem readPair_low_unmapped {lo : Addr} (hi : Addr) (s : State) (hlo : unmapped lo = true) :
    readPair lo hi s = .fault (raiseUnmapped lo .read s) := by
  simp only [readPair, busRead_unmapped _ _ hlo, Res.andThen]

theorem readPair_high_unmapped {lo hi : Addr} (s : State) (hlo : unmapped lo = false) (hhi : unmapped hi = true) :
    readPair lo hi s = .fault (raiseUnmapped hi .read (readEffect lo s)) := by
  simp only [readPair, busRead_mapped _ _ hlo, busRead_unmapped _ _ hhi, Res.andThen]

/-- The pointer of JMP is a two-byte read whose second address keeps the page of the first (R207). -/
theorem read16Bug_eq (w : Addr) (s : State) :
    read16Bug w s = readPair w (BitVec.ofNat 16 (256 * (w.toNat / 256) + (w.toNat + 1) % 256)) s := by
  rw [read16Bug, word16_highByte_lowByte_succ]

/-! The stack and the return addresses. -/

/-- Two pushes of a word, the high byte first (R15). -/
theorem pushed_pushed_eq (w : Addr) (s : State) :
    pushed (lowByte w) (pushed (highByte w) s) = { s with
      ram := Memory.write (Memory.write s.ram (0x100 + s.sp.toNat) (BitVec.ofNat 8 (w.toNat / 256)))
        (0x100 + (s.sp - 1).toNat) (BitVec.ofNat 8 (w.toNat % 256))
      sp := s.sp - 2 } := by
  have hsp : s.sp - 1 - 1 = s.sp - 2 := by
    rw [BitVec.sub_sub]
    rfl
  rw [← highByte_eq_ofNat, ← lowByte_eq_ofNat, ← hsp]
  rfl

/-- JSR pushes the address of its last byte (R330). -/
theorem add_three_sub_one (pc : Addr) : pc + BitVec.ofNat 16 3 - 1 = pc + 2 := by
  rw [add_sub_assoc]
  rfl

/-- BRK pushes its address + 2 (R333). -/
theorem add_one_add_one (pc : Addr) : pc + BitVec.ofNat 16 1 + 1 = pc + 2 := by
  rw [BitVec.add_assoc]
  rfl

/-! The vectors. -/

theorem unmapped_of_mapper {addr : Addr} (h : 0x6000 ≤ addr.toNat) : unmapped addr = false := by
  rw [Bool.eq_false_iff, ne_eq, unmapped_iff]
  omega

theorem readValue_mapper {addr : Addr} (s : State) (h : 0x6000 ≤ addr.toNat) :
    readValue addr s = mapperCpuRead addr.toNat s := by
  have hread := busRead_mapped addr s (unmapped_of_mapper h)
  rw [busRead_mapper addr s h] at hread
  injection hread with hvalue
  exact hvalue.symm

/-- The vector of IRQ and BRK is the word at 0xFFFE (R410). -/
theorem vectorAt_irq (s : State) :
    vectorAt 0xFFFE s = BitVec.ofNat 16 ((readValue 0xFFFE s).toNat + 256 * (readValue 0xFFFF s).toNat) := by
  rw [readValue_mapper s (by decide), readValue_mapper s (by decide), vectorAt, word16_eq_ofNat]
  rfl

end Sys2Proof.Machine
end

section
/-! PROOF. JMP, JSR and RTS, BRK and RTI (spec/45_control.md R329 to R333). -/

namespace Sys2Proof.Machine

/-! What each of the instructions does, as the access to memory it is built on. -/

theorem execJmpInd_of_ok {w target : Addr} {s t : State} (h : read16Bug w s = .ok target t) :
    execJmpInd w s = .next { advance 3 5 t with pc := target } := by
  rw [execJmpInd, h, Res.finish]

theorem execJmpInd_of_fault {w : Addr} {s : State} {e : Fault} (h : read16Bug w s = .fault e) :
    execJmpInd w s = .fault e := by
  rw [execJmpInd, h, Res.finish]

theorem execJsrAbs_eq (w : Addr) (s : State) :
    execJsrAbs w s = .next { pushed (lowByte (s.pc + 2)) (pushed (highByte (s.pc + 2)) s) with
      pc := w, cycles := s.cycles + 6 } := by
  simp only [execJsrAbs, advance_pc, add_three_sub_one, push16_eq]
  rfl

theorem execRts_eq (s : State) :
    execRts s = .next { s with
      sp := s.sp + 2, cycles := s.cycles + 6, pc := word16 (stackByte s 2) (stackByte s 1) + 1 } := by
  rw [execRts, pull16_eq]
  rfl

/-- BRK takes the interrupt of 0xFFFE with its address + 2 as the return address (R333). -/
theorem execBrk_eq (s : State) :
    execBrk s = .next { interrupted (s.pc + 2) (breakStatus s.p) 0xFFFE s with cycles := s.cycles + 7 } := by
  have htake := takeInterrupt_eq (s.pc + 2) (breakStatus s.p) irqVector (advance 1 7 s) (by decide) (by decide)
  simp only [execBrk, advance_pc, advance_p, add_one_add_one, htake]
  rfl

theorem execRti_eq (s : State) :
    execRti s = .next { s with
      sp := s.sp + 3, cycles := s.cycles + 6, p := Flags.ofByte (stackByte s 1)
      pc := word16 (stackByte s 3) (stackByte s 2) } := by
  rw [execRti, returnFromInterrupt_eq]
  rfl

/-- Settles O49: the pointer is a two-byte read that keeps to one page, and a stack access never faults. -/
theorem jumpsAndSubroutines : Obligations.JumpsAndSubroutines := by
  unfold Obligations.JumpsAndSubroutines
  refine ⟨rfl, rfl, rfl, rfl, fun w s => ⟨?jmpAbs, ?jmpInd, ?lowFault, ?highFault, ?jsr, ?rts⟩⟩
  case jmpAbs => rfl
  case jmpInd =>
    intro hlo hhi
    refine (execJmpInd_of_ok ((read16Bug_eq w s).trans (readPair_mapped s hlo hhi))).trans ?_
    rw [advance, readEffect_cycles, readEffect_cycles]
    rfl
  case lowFault =>
    intro hlo
    exact execJmpInd_of_fault ((read16Bug_eq w s).trans (readPair_low_unmapped _ s hlo))
  case highFault =>
    intro hlo hhi
    exact execJmpInd_of_fault ((read16Bug_eq w s).trans (readPair_high_unmapped s hlo hhi))
  case jsr => exact (execJsrAbs_eq w s).trans (by rw [pushed_pushed_eq])
  case rts =>
    have hrts := execRts_eq s
    rw [word16_add_one] at hrts
    exact hrts

/-- Settles O50: BRK takes an interrupt and RTI returns from one, and neither ever faults. -/
theorem brkAndRti : Obligations.BrkAndRti := by
  unfold Obligations.BrkAndRti
  refine ⟨rfl, rfl, fun s => ⟨?brk, ?rti⟩⟩
  case brk =>
    have hsp : s.sp - 2 - 1 = s.sp - 3 := by
      rw [BitVec.sub_sub]
      rfl
    refine (execBrk_eq s).trans ?_
    rw [interrupted, vectorAt_irq, pushed_pushed_eq, ← hsp]
    rfl
  case rti =>
    refine (execRti_eq s).trans ?_
    rw [word16_eq_ofNat]
    rfl

end Sys2Proof.Machine
end

section
/-! PROOF. The flag instructions and NOP (spec/46_flags_nop.md R350 to R357). -/

namespace Sys2Proof.Machine

/-- Settles O51: each is an implied instruction of 2 cycles, a flag instruction with the effect of writing its flag and NOP with no effect. -/
theorem flagInstructions : Obligations.FlagInstructions := by
  unfold Obligations.FlagInstructions
  refine ⟨?clc, ?sec, ?cli, ?sei, ?cld, ?sed, ?clv, ?nop⟩
  case clc | sec | cli | sei | cld | sed | clv | nop => exact impliedAs_of_exec rfl fun _ _ => rfl

end Sys2Proof.Machine
end

section
/-! SUPPORT. The faults that a bus access raises, and that an instruction with a meaning of its own raises no other (spec/20_memory.md R101, R102, spec/60_exceptions.md R401). -/

namespace Sys2Proof.Machine

/-- A fault that a bus access raises. -/
def Fault.FromBus (e : Fault) : Prop := ∃ addr dir s, e = raiseUnmapped addr dir s

/-- An access that raises no fault other than one a bus access raises. -/
def Res.OnlyBusFaults {α : Type} (r : Res α) : Prop := ∀ e, r = .fault e → e.FromBus

/-- An outcome that is no fault other than one a bus access raises. -/
def OnlyBusFaults (o : Outcome) : Prop := ∀ e, o = .fault e → e.FromBus

theorem OnlyBusFaults.ne_illegalOpcode {o : Outcome} (h : OnlyBusFaults o) (pc : Addr) (op : Byte) (left : State) :
    o ≠ .fault (.illegalOpcode pc op left) := by
  intro ho
  obtain ⟨addr, dir, s, he⟩ := h _ ho
  cases he

theorem onlyBusFaults_next (s : State) : OnlyBusFaults (.next s) := fun _ he => by cases he

/-! Accesses. -/

theorem Res.onlyBusFaults_ok {α : Type} (v : α) (s : State) : (Res.ok v s).OnlyBusFaults := fun _ he => by cases he

theorem Res.onlyBusFaults_raiseUnmapped {α : Type} (addr : Addr) (dir : Access) (s : State) :
    (Res.fault (raiseUnmapped addr dir s) : Res α).OnlyBusFaults := by
  intro e he
  cases he
  exact ⟨addr, dir, s, rfl⟩

theorem Res.OnlyBusFaults.andThen {α β : Type} {r : Res α} {f : α → State → Res β} (hr : r.OnlyBusFaults)
    (hf : ∀ v s, (f v s).OnlyBusFaults) : (r.andThen f).OnlyBusFaults := by
  cases r with
  | ok v s => exact hf v s
  | fault e =>
    intro e' he
    cases he
    exact hr e rfl

theorem Res.OnlyBusFaults.finish {α : Type} {r : Res α} {f : α → State → Outcome} (hr : r.OnlyBusFaults)
    (hf : ∀ v s, Machine.OnlyBusFaults (f v s)) : Machine.OnlyBusFaults (r.finish f) := by
  cases r with
  | ok v s => exact hf v s
  | fault e =>
    intro e' he
    cases he
    exact hr e rfl

theorem busRead_onlyBusFaults (addr : Addr) (s : State) : (busRead addr s).OnlyBusFaults := by
  cases hu : unmapped addr with
  | false =>
    rw [busRead_mapped _ _ hu]
    exact Res.onlyBusFaults_ok _ _
  | true =>
    rw [busRead_unmapped _ _ hu]
    exact Res.onlyBusFaults_raiseUnmapped _ _ _

theorem oamCopy_onlyBusFaults (page : Byte) (k i : Nat) (s : State) : (oamCopy page k i s).OnlyBusFaults := by
  induction k generalizing i s with
  | zero => exact Res.onlyBusFaults_ok _ _
  | succ k ih => exact (busRead_onlyBusFaults _ _).andThen fun v s1 => ih (i + 1) (writeOamData v s1)

theorem oamDma_onlyBusFaults (page : Byte) (s : State) : (oamDma page s).OnlyBusFaults :=
  (oamCopy_onlyBusFaults _ _ _ _).andThen fun _ _ => Res.onlyBusFaults_ok _ _

theorem busWrite_onlyBusFaults (addr : Addr) (v : Byte) (s : State) : (busWrite addr v s).OnlyBusFaults := by
  cases hf : writeFaults addr v with
  | false =>
    rw [busWrite_ok _ _ _ hf]
    exact Res.onlyBusFaults_ok _ _
  | true =>
    simp only [writeFaults, Bool.or_eq_true, Bool.and_eq_true, decide_eq_true_eq] at hf
    obtain hu | ⟨haddr, -⟩ := hf
    · rw [busWrite_unmapped _ _ _ hu]
      exact Res.onlyBusFaults_raiseUnmapped _ _ _
    · rw [busWrite_oamDma _ _ _ haddr]
      exact oamDma_onlyBusFaults _ _

/-! Instructions of each shape. -/

section Shapes

variable {base : Nat} {s : State}

theorem IsRead.onlyBusFaults {g : Nat → ReadOp → State → Outcome} {o : ReadOp} (hg : IsRead g) :
    OnlyBusFaults (g base o s) := by
  obtain ⟨f, hg, -⟩ := hg
  rw [hg]
  cases o with
  | imm b => exact onlyBusFaults_next _
  | mem m =>
    rw [readInstr, resolve_eq]
    exact (busRead_onlyBusFaults _ _).finish fun _ _ => onlyBusFaults_next _

theorem IsStore.onlyBusFaults {g : Nat → MemOp → State → Outcome} {m : MemOp} (hg : IsStore g) :
    OnlyBusFaults (g base m s) := by
  obtain ⟨value, hg⟩ := hg
  rw [hg, storeInstr, resolve_eq]
  exact (busWrite_onlyBusFaults _ _ _).finish fun _ _ => onlyBusFaults_next _

theorem IsModify.onlyBusFaults {g : Nat → MemOp → State → Outcome} {m : MemOp} (hg : IsModify g) :
    OnlyBusFaults (g base m s) := by
  obtain ⟨modify, after, hg, -⟩ := hg
  rw [hg, rmwInstr, resolve_eq]
  exact (busRead_onlyBusFaults _ _).finish fun _ _ =>
    (busWrite_onlyBusFaults _ _ _).finish fun _ _ => onlyBusFaults_next _

theorem IsShift.onlyBusFaults_acc {g : Nat → ShiftOp → State → Outcome} (hg : IsShift g) :
    OnlyBusFaults (g base .acc s) := by
  obtain ⟨modify, hg⟩ := hg
  rw [hg]
  exact onlyBusFaults_next _

theorem branchInstr_onlyBusFaults (cond : Flags → Bool) (off : Byte) : OnlyBusFaults (branchInstr cond off s) := by
  rw [branchInstr]
  split
  · exact onlyBusFaults_next _
  · exact onlyBusFaults_next _

/-- The two reads of a pointer may fault (R217). -/
theorem execJmpInd_onlyBusFaults (w : Addr) : OnlyBusFaults (execJmpInd w s) :=
  ((busRead_onlyBusFaults _ _).andThen fun _ _ =>
    (busRead_onlyBusFaults _ _).andThen fun _ _ => Res.onlyBusFaults_ok _ _).finish fun _ _ => onlyBusFaults_next _

end Shapes

/-- A documented instruction faults at a bus access only. -/
theorem exec_documented_onlyBusFaults {i : Instr} (h : i.status = .documented) (s : State) :
    OnlyBusFaults (exec i s) := by
  cases i <;> cases h
  all_goals simp only [exec]
  case ldaIzx | ldaZp | ldaImm | ldaAbs | ldaIzy | ldaZpx | ldaAby | ldaAbx => exact isRead_lda.onlyBusFaults
  case ldxImm | ldxZp | ldxAbs | ldxZpy | ldxAby => exact isRead_ldx.onlyBusFaults
  case ldyImm | ldyZp | ldyAbs | ldyZpx | ldyAbx => exact isRead_ldy.onlyBusFaults
  case staIzx | staZp | staAbs | staIzy | staZpx | staAby | staAbx => exact isStore_sta.onlyBusFaults
  case stxZp | stxAbs | stxZpy => exact isStore_stx.onlyBusFaults
  case styZp | styAbs | styZpx => exact isStore_sty.onlyBusFaults
  case tax | tay | txa | tya | tsx | txs | inx | iny | dex | dey | clc | sec | cli | sei | cld | sed | clv | nop =>
    exact onlyBusFaults_next _
  case pha =>
    rw [execPha, pushInstr_eq]
    exact onlyBusFaults_next _
  case php =>
    rw [execPhp, pushInstr_eq]
    exact onlyBusFaults_next _
  case pla =>
    rw [execPla, pullInstr_eq fun v t => { t with a := v, p := t.p.setZN v }]
    exact onlyBusFaults_next _
  case plp =>
    rw [execPlp, pullInstr_eq fun v t => { t with p := Flags.ofByte v }]
    exact onlyBusFaults_next _
  case adcIzx | adcZp | adcImm | adcAbs | adcIzy | adcZpx | adcAby | adcAbx => exact isRead_adc.onlyBusFaults
  case sbcIzx | sbcZp | sbcImm | sbcAbs | sbcIzy | sbcZpx | sbcAby | sbcAbx => exact isRead_sbc.onlyBusFaults
  case andIzx | andZp | andImm | andAbs | andIzy | andZpx | andAby | andAbx => exact isRead_andA.onlyBusFaults
  case oraIzx | oraZp | oraImm | oraAbs | oraIzy | oraZpx | oraAby | oraAbx => exact isRead_ora.onlyBusFaults
  case eorIzx | eorZp | eorImm | eorAbs | eorIzy | eorZpx | eorAby | eorAbx => exact isRead_eor.onlyBusFaults
  case bitZp | bitAbs => exact isRead_bitTest.onlyBusFaults
  case cmpIzx | cmpZp | cmpImm | cmpAbs | cmpIzy | cmpZpx | cmpAby | cmpAbx => exact isRead_cmp.onlyBusFaults
  case cpxImm | cpxZp | cpxAbs => exact isRead_cpx.onlyBusFaults
  case cpyImm | cpyZp | cpyAbs => exact isRead_cpy.onlyBusFaults
  case incZp | incAbs | incZpx | incAbx => exact isModify_inc.onlyBusFaults
  case decZp | decAbs | decZpx | decAbx => exact isModify_dec.onlyBusFaults
  case aslZp | aslAbs | aslZpx | aslAbx => exact isShift_asl.isModify.onlyBusFaults
  case lsrZp | lsrAbs | lsrZpx | lsrAbx => exact isShift_lsr.isModify.onlyBusFaults
  case rolZp | rolAbs | rolZpx | rolAbx => exact isShift_rol.isModify.onlyBusFaults
  case rorZp | rorAbs | rorZpx | rorAbx => exact isShift_ror.isModify.onlyBusFaults
  case aslAcc => exact isShift_asl.onlyBusFaults_acc
  case lsrAcc => exact isShift_lsr.onlyBusFaults_acc
  case rolAcc => exact isShift_rol.onlyBusFaults_acc
  case rorAcc => exact isShift_ror.onlyBusFaults_acc
  case bpl | bmi | bvc | bvs | bcc | bcs | bne | beq => exact branchInstr_onlyBusFaults _ _
  case jmpAbs => exact onlyBusFaults_next _
  case jmpInd w => exact execJmpInd_onlyBusFaults w
  case jsrAbs w => exact execJsrAbs_eq w s ▸ onlyBusFaults_next _
  case rts => exact execRts_eq s ▸ onlyBusFaults_next _
  case rti => exact execRti_eq s ▸ onlyBusFaults_next _
  case brk => exact execBrk_eq s ▸ onlyBusFaults_next _

end Sys2Proof.Machine
end

section
/-! PROOF. The always-illegal opcodes and the gate of the unofficial ones (spec/47_unofficial.md R370, R381, spec/30_encoding.md R161). -/

namespace Sys2Proof.Machine

/-- An always-illegal instruction raises `IllegalOpcode` under every value of the parameter (R381). -/
theorem exec_of_alwaysIllegal {i : Instr} (h : i.status = .alwaysIllegal) (s : State) :
    exec i s = illegalInstr (opcodeOf i) s := by
  cases i <;> cases h <;> rfl

/-- Every unofficial instruction stands behind the gate, with its own opcode (R370). -/
theorem exec_eq_gated_of_unofficial {i : Instr} (h : i.status = .unofficial) :
    ∃ effect, ∀ s, exec i s = gated (opcodeOf i) effect s := by
  cases i <;> cases h <;> exact ⟨_, fun _ => rfl⟩

/-- Settles O11: at each constructor both sides of the equivalence have the same truth value, and an always-illegal instruction has no other meaning than the fault. -/
theorem alwaysIllegal : Obligations.AlwaysIllegal := by
  unfold Obligations.AlwaysIllegal
  refine ⟨fun i => ?opcodes, fun i s h => exec_of_alwaysIllegal h s⟩
  case opcodes =>
    rw [← decide_eq_decide]
    cases i <;> rfl

/-- Settles O12: the gate is closed to every unofficial instruction, and a documented one faults at a bus access only. -/
theorem unofficialGate : Obligations.UnofficialGate := by
  unfold Obligations.UnofficialGate
  refine ⟨fun i s h hcfg => ?unofficial, fun i s left pc op h => ?documented⟩
  case unofficial =>
    obtain ⟨effect, hexec⟩ := exec_eq_gated_of_unofficial h
    rw [hexec, gated_fault _ _ _ hcfg]
    rfl
  case documented => exact (exec_documented_onlyBusFaults h s).ne_illegalOpcode pc op left

end Sys2Proof.Machine
end

section
/-! PROOF. The unofficial instructions where they execute (spec/47_unofficial.md R370 to R380). -/

namespace Sys2Proof.Machine

/-- Where the unofficial opcodes execute, an instruction behind the gate has its effect (R370). -/
theorem exec_of_gated {i : Instr} {op : Byte} {effect : State → Outcome} (hexec : ∀ s, exec i s = gated op effect s)
    (s : State) (hs : unofficialOn s = true) : exec i s = effect s :=
  (hexec s).trans (gated_nestest op effect s (of_decide_eq_true hs))

/-- Settles O52: behind the gate each form is an implied, a read or a write instruction with the effect its mnemonic shares. -/
theorem unofficialReadsAndStores : Obligations.UnofficialReadsAndStores := by
  unfold Obligations.UnofficialReadsAndStores
  rw [← addToA_complement_eq_differenceEffect]
  intro b w nop lax
  refine ⟨?nop1A, ?nop3A, ?nop5A, ?nop7A, ?nopDA, ?nopFA,
    ?nop04, ?nop0C, ?nop14, ?nop1C, ?nop34, ?nop3C, ?nop44, ?nop54, ?nop5C, ?nop64, ?nop74, ?nop7C,
    ?nop80, ?nop82, ?nop89, ?nopC2, ?nopD4, ?nopDC, ?nopE2, ?nopF4, ?nopFC,
    ?laxIzx, ?laxZp, ?laxAbs, ?laxIzy, ?laxZpy, ?laxAby, ?saxIzx, ?saxZp, ?saxAbs, ?saxZpy, ?sbcImmEB⟩
  case nop1A | nop3A | nop5A | nop7A | nopDA | nopFA => exact impliedAs_of_exec rfl (exec_of_gated fun _ => rfl)
  case nop04 | nop0C | nop14 | nop1C | nop34 | nop3C | nop44 | nop54 | nop5C | nop64 | nop74 | nop7C | nop80 |
      nop82 | nop89 | nopC2 | nopD4 | nopDC | nopE2 | nopF4 | nopFC =>
    exact readsAs_of_exec rfl (exec_of_gated fun _ => rfl)
  case laxIzx | laxZp | laxAbs | laxIzy | laxZpy | laxAby => exact readsAs_of_exec rfl (exec_of_gated fun _ => rfl)
  case saxIzx | saxZp | saxAbs | saxZpy => exact writesAs_of_exec rfl (exec_of_gated fun _ => rfl)
  case sbcImmEB => exact readsAs_of_exec rfl (exec_of_gated fun _ => rfl)

/-- Settles O53: behind the gate each form is a read-modify-write instruction of the arithmetic of DEC, INC or a shift, followed by the compare, the sum or the logic its mnemonic shares. -/
theorem unofficialModify : Obligations.UnofficialModify := by
  unfold Obligations.UnofficialModify
  rw [← addToA_complement_eq_differenceEffect, ← addToA_eq_sumEffect]
  simp only [← compare_eq_compareEffect]
  intro b w
  refine ⟨?dcpIzx, ?dcpZp, ?dcpAbs, ?dcpIzy, ?dcpZpx, ?dcpAby, ?dcpAbx,
    ?isbIzx, ?isbZp, ?isbAbs, ?isbIzy, ?isbZpx, ?isbAby, ?isbAbx,
    ?sloIzx, ?sloZp, ?sloAbs, ?sloIzy, ?sloZpx, ?sloAby, ?sloAbx,
    ?rlaIzx, ?rlaZp, ?rlaAbs, ?rlaIzy, ?rlaZpx, ?rlaAby, ?rlaAbx,
    ?sreIzx, ?sreZp, ?sreAbs, ?sreIzy, ?sreZpx, ?sreAby, ?sreAbx,
    ?rraIzx, ?rraZp, ?rraAbs, ?rraIzy, ?rraZpx, ?rraAby, ?rraAbx⟩
  case dcpIzx | dcpZp | dcpAbs | dcpIzy | dcpZpx | dcpAby | dcpAbx =>
    exact modifiesAs_of_exec decrement_eq rfl (exec_of_gated fun _ => rfl)
  case isbIzx | isbZp | isbAbs | isbIzy | isbZpx | isbAby | isbAbx =>
    exact modifiesAs_of_exec increment_eq rfl (exec_of_gated fun _ => rfl)
  case sloIzx | sloZp | sloAbs | sloIzy | sloZpx | sloAby | sloAbx =>
    exact modifiesAs_of_exec shiftLeft_eq rfl (exec_of_gated fun _ => rfl)
  case rlaIzx | rlaZp | rlaAbs | rlaIzy | rlaZpx | rlaAby | rlaAbx =>
    exact modifiesAs_of_exec rotateLeft_eq rfl (exec_of_gated fun _ => rfl)
  case sreIzx | sreZp | sreAbs | sreIzy | sreZpx | sreAby | sreAbx =>
    exact modifiesAs_of_exec shiftRight_eq rfl (exec_of_gated fun _ => rfl)
  case rraIzx | rraZp | rraAbs | rraIzy | rraZpx | rraAby | rraAbx =>
    exact modifiesAs_of_exec rotateRight_eq rfl (exec_of_gated fun _ => rfl)

end Sys2Proof.Machine
end

section
/-! SUPPORT. What a step that faults can leave, said once: a property that every part of a step keeps, the raising of a fault included, holds in the faulted state (`FaultKeeps.step_faultsIn`; spec/60_exceptions.md R400, R401). -/

namespace Sys2Proof.Machine

/-- The state a fault carries has a property; `stopped` carries none (R400). -/
def Fault.LeavesIn (P : State → Prop) : Fault → Prop
  | .illegalOpcode _ _ left => P left
  | .unmappedAddress _ _ left => P left
  | .stopped _ => True

/-- The state that an access answers or faults in has a property. -/
def Res.EndsIn {α : Type} (P : State → Prop) : Res α → Prop
  | .ok _ s => P s
  | .fault e => e.LeavesIn P

/-- The state that an outcome faults in, if it does, has a property. -/
def FaultsIn (P : State → Prop) (o : Outcome) : Prop := ∀ e, o = .fault e → e.LeavesIn P

/-- A property that every part of a step keeps, the raising of a fault included (R43, R400). -/
structure FaultKeeps (P : State → Prop) : Prop extends StepKeeps P where
  fault : ∀ r s, P s → P { s with fault := r }

section

variable {P : State → Prop}

theorem faultsIn_next (s : State) : FaultsIn P (.next s) := fun _ he => by cases he

theorem branchInstr_faultsIn (cond : Flags → Bool) (off : Byte) {s : State} : FaultsIn P (branchInstr cond off s) := by
  rw [branchInstr]
  split
  · exact faultsIn_next _
  · exact faultsIn_next _

theorem Res.EndsIn.andThen {α β : Type} {r : Res α} {f : α → State → Res β} (hr : r.EndsIn P)
    (hf : ∀ v s, P s → (f v s).EndsIn P) : (r.andThen f).EndsIn P := by
  cases r with
  | ok v s => exact hf v s hr
  | fault e => exact hr

theorem Res.EndsIn.finish {α : Type} {r : Res α} {f : α → State → Outcome} (hr : r.EndsIn P)
    (hf : ∀ v s, P s → FaultsIn P (f v s)) : FaultsIn P (r.finish f) := by
  cases r with
  | ok v s => exact hf v s hr
  | fault e =>
    intro e' he
    cases he
    exact hr

/-! Accesses. -/

variable (k : FaultKeeps P)
include k

theorem busRead_endsIn (addr : Addr) {s : State} (hs : P s) : (busRead addr s).EndsIn P := by
  cases hu : unmapped addr with
  | false =>
    rw [busRead_mapped _ _ hu]
    exact k.readEffect addr s hs
  | true =>
    rw [busRead_unmapped _ _ hu]
    exact k.fault _ s hs

theorem oamCopy_endsIn (page : Byte) (n i : Nat) {s : State} (hs : P s) : (oamCopy page n i s).EndsIn P := by
  induction n generalizing i s with
  | zero => exact hs
  | succ n ih => exact (busRead_endsIn k _ hs).andThen fun v s1 hs1 => ih (i + 1) (k.oamData v s1 hs1)

theorem busWrite_endsIn (addr : Addr) (v : Byte) {s : State} (hs : P s) : (busWrite addr v s).EndsIn P := by
  cases hf : writeFaults addr v with
  | false =>
    rw [busWrite_ok _ _ _ hf]
    exact k.writeEffect addr v s hs
  | true =>
    simp only [writeFaults, Bool.or_eq_true, Bool.and_eq_true, decide_eq_true_eq] at hf
    obtain hu | ⟨haddr, -⟩ := hf
    · rw [busWrite_unmapped _ _ _ hu]
      exact k.fault _ s hs
    · rw [busWrite_oamDma _ _ _ haddr]
      exact (oamCopy_endsIn k v 256 0 hs).andThen fun _ s1 hs1 => k.stall _ s1 hs1

/-! Instructions of each shape. Each faults at an access, before its own effect (R221). -/

theorem FaultKeeps.advance (len cyc : Nat) {s : State} (hs : P s) : P (advance len cyc s) := k.own {} _ _ rfl hs

section Shapes

variable {base : Nat} {s : State} (hs : P s)
include hs

theorem IsRead.faultsIn {g : Nat → ReadOp → State → Outcome} {o : ReadOp} (hg : IsRead g) : FaultsIn P (g base o s) := by
  obtain ⟨f, hg, -⟩ := hg
  rw [hg]
  cases o with
  | imm b => exact faultsIn_next _
  | mem m =>
    rw [readInstr, resolve_eq]
    exact (busRead_endsIn k _ (k.advance _ _ hs)).finish fun _ _ _ => faultsIn_next _

theorem IsStore.faultsIn {g : Nat → MemOp → State → Outcome} {m : MemOp} (hg : IsStore g) : FaultsIn P (g base m s) := by
  obtain ⟨value, hg⟩ := hg
  rw [hg, storeInstr, resolve_eq]
  exact (busWrite_endsIn k _ _ (k.advance _ _ hs)).finish fun _ _ _ => faultsIn_next _

theorem IsModify.faultsIn {g : Nat → MemOp → State → Outcome} {m : MemOp} (hg : IsModify g) :
    FaultsIn P (g base m s) := by
  obtain ⟨modify, after, hg, -⟩ := hg
  rw [hg, rmwInstr, resolve_eq]
  refine (busRead_endsIn k _ (k.advance _ _ hs)).finish fun v s2 hs2 => ?_
  have hcarry : P { s2 with p := { s2.p with c := (modify v s2.p.c).c } } := k.own { c := true } _ _ rfl hs2
  exact (busWrite_endsIn k _ _ hcarry).finish fun _ _ _ => faultsIn_next _

theorem execJmpInd_faultsIn (w : Addr) : FaultsIn P (execJmpInd w s) :=
  ((busRead_endsIn k _ hs).andThen fun _ _ hs1 =>
    (busRead_endsIn k _ hs1).andThen fun _ _ hs2 => by exact hs2).finish fun _ _ _ => faultsIn_next _

theorem illegalInstr_faultsIn (op : Byte) : FaultsIn P (illegalInstr op s) := by
  intro e he
  cases he
  exact k.fault _ s hs

theorem gated_faultsIn {op : Byte} {effect : State → Outcome} (h : FaultsIn P (effect s)) :
    FaultsIn P (gated op effect s) := by
  cases hu : s.cfg.unofficial with
  | nestest => rwa [gated_nestest _ _ _ hu]
  | fault =>
    rw [gated_fault _ _ _ hu]
    exact illegalInstr_faultsIn k hs op

theorem fetch_endsIn : (fetch s).EndsIn P := by
  refine (busRead_endsIn k s.pc hs).andThen fun op s1 hs1 => ?_
  split
  · exact k.fault _ s1 hs1
  · split
    · split
      · exact hs1
      · exact (busRead_endsIn k _ hs1).andThen fun _ _ hs2 => hs2
      · exact (busRead_endsIn k _ hs1).andThen fun _ _ hs2 =>
          (busRead_endsIn k _ hs2).andThen fun _ _ hs3 => hs3
    · exact k.fault _ s1 hs1

/-- Every instruction that faults leaves what its accesses keep. -/
theorem exec_faultsIn (i : Instr) : FaultsIn P (exec i s) := by
  have read {g base o} (hg : IsRead g) : FaultsIn P (g base o s) := hg.faultsIn k hs
  have store {g base m} (hg : IsStore g) : FaultsIn P (g base m s) := hg.faultsIn k hs
  have modify {g base m} (hg : IsModify g) : FaultsIn P (g base m s) := hg.faultsIn k hs
  have unofficial {op effect} (h : FaultsIn P (effect s)) : FaultsIn P (gated op effect s) :=
    gated_faultsIn k hs h
  cases i
  all_goals simp only [exec]
  case ldaIzx | ldaZp | ldaImm | ldaAbs | ldaIzy | ldaZpx | ldaAby | ldaAbx => exact read isRead_lda
  case ldxImm | ldxZp | ldxAbs | ldxZpy | ldxAby => exact read isRead_ldx
  case ldyImm | ldyZp | ldyAbs | ldyZpx | ldyAbx => exact read isRead_ldy
  case adcIzx | adcZp | adcImm | adcAbs | adcIzy | adcZpx | adcAby | adcAbx => exact read isRead_adc
  case sbcIzx | sbcZp | sbcImm | sbcAbs | sbcIzy | sbcZpx | sbcAby | sbcAbx => exact read isRead_sbc
  case andIzx | andZp | andImm | andAbs | andIzy | andZpx | andAby | andAbx => exact read isRead_andA
  case oraIzx | oraZp | oraImm | oraAbs | oraIzy | oraZpx | oraAby | oraAbx => exact read isRead_ora
  case eorIzx | eorZp | eorImm | eorAbs | eorIzy | eorZpx | eorAby | eorAbx => exact read isRead_eor
  case bitZp | bitAbs => exact read isRead_bitTest
  case cmpIzx | cmpZp | cmpImm | cmpAbs | cmpIzy | cmpZpx | cmpAby | cmpAbx => exact read isRead_cmp
  case cpxImm | cpxZp | cpxAbs => exact read isRead_cpx
  case cpyImm | cpyZp | cpyAbs => exact read isRead_cpy
  case staIzx | staZp | staAbs | staIzy | staZpx | staAby | staAbx => exact store isStore_sta
  case stxZp | stxAbs | stxZpy => exact store isStore_stx
  case styZp | styAbs | styZpx => exact store isStore_sty
  case incZp | incAbs | incZpx | incAbx => exact modify isModify_inc
  case decZp | decAbs | decZpx | decAbx => exact modify isModify_dec
  case aslZp | aslAbs | aslZpx | aslAbx => exact modify isShift_asl.isModify
  case lsrZp | lsrAbs | lsrZpx | lsrAbx => exact modify isShift_lsr.isModify
  case rolZp | rolAbs | rolZpx | rolAbx => exact modify isShift_rol.isModify
  case rorZp | rorAbs | rorZpx | rorAbx => exact modify isShift_ror.isModify
  case tax | tay | txa | tya | tsx | txs | inx | iny | dex | dey | clc | sec | cli | sei | cld | sed | clv | nop |
      aslAcc | lsrAcc | rolAcc | rorAcc | jmpAbs =>
    exact faultsIn_next _
  case bpl | bmi | bvc | bvs | bcc | bcs | bne | beq =>
    exact branchInstr_faultsIn _ _
  case pha =>
    rw [execPha, push_eq]
    exact faultsIn_next _
  case php =>
    rw [execPhp, push_eq]
    exact faultsIn_next _
  case pla =>
    rw [execPla, pull_eq]
    exact faultsIn_next _
  case plp =>
    rw [execPlp, pull_eq]
    exact faultsIn_next _
  case jsrAbs w => exact execJsrAbs_eq w s ▸ faultsIn_next _
  case rts => exact execRts_eq s ▸ faultsIn_next _
  case rti => exact execRti_eq s ▸ faultsIn_next _
  case brk => exact execBrk_eq s ▸ faultsIn_next _
  case jmpInd w => exact execJmpInd_faultsIn k hs w
  case nop04 | nop0C | nop14 | nop1C | nop34 | nop3C | nop44 | nop54 | nop5C | nop64 | nop74 | nop7C | nop80 |
      nop82 | nop89 | nopC2 | nopD4 | nopDC | nopE2 | nopF4 | nopFC =>
    exact unofficial (read isRead_nopRead)
  case nop1A | nop3A | nop5A | nop7A | nopDA | nopFA => exact unofficial (faultsIn_next _)
  case laxIzx | laxZp | laxAbs | laxIzy | laxZpy | laxAby => exact unofficial (read isRead_lax)
  case sbcImmEB => exact unofficial (read isRead_sbc)
  case saxIzx | saxZp | saxAbs | saxZpy => exact unofficial (store isStore_sax)
  case dcpIzx | dcpZp | dcpAbs | dcpIzy | dcpZpx | dcpAby | dcpAbx => exact unofficial (modify isModify_dcp)
  case isbIzx | isbZp | isbAbs | isbIzy | isbZpx | isbAby | isbAbx => exact unofficial (modify isModify_isb)
  case sloIzx | sloZp | sloAbs | sloIzy | sloZpx | sloAby | sloAbx => exact unofficial (modify isModify_slo)
  case rlaIzx | rlaZp | rlaAbs | rlaIzy | rlaZpx | rlaAby | rlaAbx => exact unofficial (modify isModify_rla)
  case sreIzx | sreZp | sreAbs | sreIzy | sreZpx | sreAby | sreAbx => exact unofficial (modify isModify_sre)
  case rraIzx | rraZp | rraAbs | rraIzy | rraZpx | rraAby | rraAbx => exact unofficial (modify isModify_rra)
  case anc0B | anc2B | alrImm | arrImm | aneImm | lxaImm | sbxImm | shaIzy | shaAby | shyAbx | shxAby | tasAby |
      lasAby | jam02 | jam12 | jam22 | jam32 | jam42 | jam52 | jam62 | jam72 | jam92 | jamB2 | jamD2 | jamF2 =>
    exact illegalInstr_faultsIn k hs _

end Shapes

/-- Everything a step that faults can leave (R200, R400): a stall and an interrupt entry never fault. -/
theorem FaultKeeps.step_faultsIn {s : State} (hs : P s) : FaultsIn P (step s) := by
  unfold step
  split
  · next r _ =>
    intro e he
    cases he
    trivial
  · unfold liveStep
    split_ifs
    · exact faultsIn_next _
    · rw [nmiEntry_eq]
      exact faultsIn_next _
    · rw [irqEntry_eq]
      exact faultsIn_next _
    · refine (fetch_endsIn k hs).finish fun i s1 hs1 => ?_
      have hexec := exec_faultsIn k hs1 i
      intro e he
      cases ho : exec i s1 with
      | next t => rw [ho] at he; cases he
      | fault e' =>
        rw [ho] at he
        cases he
        exact hexec e ho
      | refused r => rw [ho] at he; cases he

end

end Sys2Proof.Machine
end

section
/-! PROOF. No step changes ROM (spec/62_mapper_devices.md R557). -/

namespace Sys2Proof.Machine

/-- `t` holds the PRG ROM, the cartridge and, where it is ROM, the CHR of `s`. -/
def SameRom (s t : State) : Prop := t.prgRom = s.prgRom ∧ t.cart = s.cart ∧ (s.cart.chrIsRam = false → t.chr = s.chr)

/-- A PPUDATA write reaches CHR-RAM only (R555). -/
theorem sameRom_ppuWrite (addr : Addr) (v : Byte) {s t : State} (h : SameRom s t) : SameRom s (ppuWrite addr v t) := by
  obtain ⟨hprg, hcart, hchr⟩ := h
  unfold ppuWrite mapperPpuWrite
  simp only
  split_ifs with hpattern hram
  · exact ⟨hprg, hcart, fun hrom => by simp_all⟩
  · exact ⟨hprg, hcart, hchr⟩
  · exact ⟨hprg, hcart, hchr⟩
  · exact ⟨hprg, hcart, hchr⟩

theorem sameRom_ppuRegWrite (r : Nat) (d : Byte) {s t : State} (h : SameRom s t) : SameRom s (ppuRegWrite r d t) := by
  unfold ppuRegWrite
  simp only
  split
  · exact h
  · exact h
  · exact h
  · exact h
  · unfold writeScroll
    split <;> exact h
  · unfold writePpuAddr
    split <;> exact h
  · simp only [writePpuData, observePpu_eq]
    exact sameRom_ppuWrite _ d (t := { t with ppu := { t.ppu with latch := d } }) h
  · exact h

theorem faultKeeps_sameRom (s : State) : FaultKeeps (SameRom s) where
  ppuRegRead r t h := by rw [ppuRegRead_state]; exact h
  readPad1 _ h := h
  readPad2 _ h := h
  ramWrite _ _ _ _ h := h
  ppuRegWrite r d _ h := sameRom_ppuRegWrite r d h
  oamData _ _ h := h
  stall _ _ h := h
  strobe _ _ h := h
  mapperWrite n v t hn h := by rw [mapperCpuWrite_state n v t hn]; exact h
  own w t u hupd h := by rw [hupd]; exact h
  nmiPending _ _ h := h
  tick t h := by rw [tick_state]; exact h
  fault _ _ h := h

/-- A CPU write of the ROM range changes the bank windows at most (R553, R557, R560). -/
theorem mapperCpuWrite_rom (n : Nat) (v : Byte) (s : State) (hlow : 0x8000 ≤ n) (hhigh : n ≤ 0xFFFF) :
    ∃ m, mapperCpuWrite n v s = { s with map := m } ∧ (s.cart.kind = .nrom → m = s.map) := by
  rw [mapperCpuWrite_cases n v s hhigh, if_neg (by omega)]
  cases s.cart.kind with
  | nrom => exact ⟨s.map, rfl, fun _ => rfl⟩
  | uxrom => exact ⟨(setPrgWindow 0 v.toNat s).map, rfl, nofun⟩
  | cnrom => exact ⟨(setChrWindow 0 v.toNat s).map, rfl, nofun⟩

/-- Settles O20: holding the same ROM is a property that every part of a step keeps, a fault included. -/
theorem romImmutable : Obligations.RomImmutable := by
  unfold Obligations.RomImmutable
  have keeps (s : State) := faultKeeps_sameRom s
  have start (s : State) : SameRom s s := ⟨rfl, rfl, fun _ => rfl⟩
  refine ⟨fun s t h => (keeps s).step h (start s), fun s t pc op h => (keeps s).step_faultsIn (start s) _ h,
    fun s t a d h => (keeps s).step_faultsIn (start s) _ h, fun a v s ha => ?_⟩
  rw [busWrite_mapper a v s (by omega)]
  obtain ⟨m, hm, hnrom⟩ := mapperCpuWrite_rom a.toNat v s ha (Nat.le_of_lt_succ a.isLt)
  exact ⟨m, by rw [hm], hnrom⟩

end Sys2Proof.Machine
end

section
/-! PROOF. The interrupt entries (spec/60_exceptions.md R413 to R415). -/

namespace Sys2Proof.Machine

/-- The status byte of an interrupt entry, bit 4 by `INT_PUSH_B` (R413, R414). -/
theorem interruptStatus_eq (s : State) : interruptStatus s =
    (s.p.toByte &&& 0xEF#8) ||| 0x20#8 ||| (if s.cfg.intPushB then 0x10#8 else 0#8) := by
  unfold interruptStatus
  cases s.cfg.intPushB <;> rfl

/-- Settles O9: an NMI comes right after the stall in the priority of R415, and its entry never faults. -/
theorem nmiStep : Obligations.NmiStep := by
  unfold Obligations.NmiStep
  intro s hfault hstall hnmi
  have hstep : step s = entryStep (nmiEntry s) := by simp [step, hfault, liveStep, hstall, hnmi]
  rw [hstep, nmiEntry_eq, interruptStatus_eq, entryStep, Res.finish, payTicks_eq]
  rfl

/-- Settles O10: an IRQ comes after the NMI in the priority of R415, its entry never faults, and P.I keeps it out. -/
theorem irqStep : Obligations.IrqStep := by
  unfold Obligations.IrqStep
  refine ⟨fun s hfault hstall hnmi hirq hi => ?_, fun s hfault hstall hnmi hi => ?_⟩
  · have hstep : step s = entryStep (irqEntry s) := by simp [step, hfault, liveStep, hstall, hnmi, hirq, hi]
    rw [hstep, irqEntry_eq, interruptStatus_eq, entryStep, Res.finish, payTicks_eq]
    rfl
  · exact step_eq_instrStep (by simp [State.instrReady, hfault, hstall, hnmi, hi])

end Sys2Proof.Machine
end

section
/-! SUPPORT. The loopy register in fields (spec/10_state.md R51): a bitwise operation on it is that operation on each field, so a mask that covers whole fields selects them. -/

namespace Sys2Proof.Machine

/-- Two bit vectors put together, in arithmetic. -/
theorem toNat_append_eq {m n : Nat} (x : BitVec m) (y : BitVec n) : (x ++ y).toNat = x.toNat * 2 ^ n + y.toNat := by
  rw [BitVec.toNat_append, ← Nat.shiftLeft_add_eq_or_of_lt y.isLt, Nat.shiftLeft_eq]

/-- The loopy register with the given fields (R51). -/
def loopy (fineY : BitVec 3) (ntY ntX : BitVec 1) (coarseY coarseX : BitVec 5) : BitVec 15 :=
  fineY ++ ntY ++ ntX ++ coarseY ++ coarseX

section

variable (fineY fineY' : BitVec 3) (ntY ntY' ntX ntX' : BitVec 1) (coarseY coarseY' coarseX coarseX' : BitVec 5)

theorem loopy_toNat : (loopy fineY ntY ntX coarseY coarseX).toNat =
    0x1000 * fineY.toNat + 0x800 * ntY.toNat + 0x400 * ntX.toNat + 0x20 * coarseY.toNat + coarseX.toNat := by
  simp only [loopy, toNat_append_eq]
  omega

theorem loopy_toNat_coarseX : (loopy fineY ntY ntX coarseY coarseX).toNat % 0x20 = coarseX.toNat := by
  have := coarseX.isLt
  rw [loopy_toNat]
  omega

theorem loopy_toNat_nametables :
    (loopy fineY ntY ntX coarseY coarseX).toNat / 0x400 % 4 = 2 * ntY.toNat + ntX.toNat := by
  have := ntY.isLt; have := ntX.isLt; have := coarseY.isLt; have := coarseX.isLt
  rw [loopy_toNat]
  omega

theorem loopy_and : loopy fineY ntY ntX coarseY coarseX &&& loopy fineY' ntY' ntX' coarseY' coarseX' =
    loopy (fineY &&& fineY') (ntY &&& ntY') (ntX &&& ntX') (coarseY &&& coarseY') (coarseX &&& coarseX') :=
  (by simp only [BitVec.and_append, loopy] :
    (_ ++ _ ++ _ ++ _ ++ _ : BitVec (3 + 1 + 1 + 5 + 5)) &&& (_ ++ _ ++ _ ++ _ ++ _) = _)

theorem loopy_or : loopy fineY ntY ntX coarseY coarseX ||| loopy fineY' ntY' ntX' coarseY' coarseX' =
    loopy (fineY ||| fineY') (ntY ||| ntY') (ntX ||| ntX') (coarseY ||| coarseY') (coarseX ||| coarseX') :=
  (by simp only [BitVec.or_append, loopy] :
    (_ ++ _ ++ _ ++ _ ++ _ : BitVec (3 + 1 + 1 + 5 + 5)) ||| (_ ++ _ ++ _ ++ _ ++ _) = _)

theorem loopy_xor : loopy fineY ntY ntX coarseY coarseX ^^^ loopy fineY' ntY' ntX' coarseY' coarseX' =
    loopy (fineY ^^^ fineY') (ntY ^^^ ntY') (ntX ^^^ ntX') (coarseY ^^^ coarseY') (coarseX ^^^ coarseX') :=
  (by simp only [BitVec.xor_append, loopy] :
    (_ ++ _ ++ _ ++ _ ++ _ : BitVec (3 + 1 + 1 + 5 + 5)) ^^^ (_ ++ _ ++ _ ++ _ ++ _) = _)

theorem loopy_inj : loopy fineY ntY ntX coarseY coarseX = loopy fineY' ntY' ntX' coarseY' coarseX' ↔
    fineY = fineY' ∧ ntY = ntY' ∧ ntX = ntX' ∧ coarseY = coarseY' ∧ coarseX = coarseX' := by
  simp only [← BitVec.toNat_inj, loopy_toNat]
  omega

end

/-! A field under the mask of all its bits. -/

@[simp] theorem and_mask_three (x : BitVec 3) : x &&& 7#3 = x := BitVec.and_allOnes

@[simp] theorem and_mask_one (x : BitVec 1) : x &&& 1#1 = x := BitVec.and_allOnes

@[simp] theorem and_mask_five (x : BitVec 5) : x &&& 31#5 = x := BitVec.and_allOnes

/-- A number with five fields in range is a loopy register with those fields. -/
theorem ofNat_eq_loopy {fineY ntY ntX coarseY coarseX : Nat} (hntY : ntY < 2) (hntX : ntX < 2)
    (hcoarseY : coarseY < 32) (hcoarseX : coarseX < 32) :
    BitVec.ofNat 15 (0x1000 * fineY + 0x800 * ntY + 0x400 * ntX + 0x20 * coarseY + coarseX) =
      loopy (BitVec.ofNat 3 fineY) (BitVec.ofNat 1 ntY) (BitVec.ofNat 1 ntX) (BitVec.ofNat 5 coarseY)
        (BitVec.ofNat 5 coarseX) := by
  apply BitVec.eq_of_toNat_eq
  simp only [loopy_toNat, BitVec.toNat_ofNat]
  omega

/-- Every loopy register has its fields. -/
theorem exists_eq_loopy (v : BitVec 15) :
    ∃ fineY ntY ntX coarseY coarseX, v = loopy fineY ntY ntX coarseY coarseX := by
  have hv := v.isLt
  refine ⟨_, _, _, _, _, Eq.trans ?_ (ofNat_eq_loopy (fineY := v.toNat / 0x1000) (ntY := v.toNat / 0x800 % 2)
    (ntX := v.toNat / 0x400 % 2) (coarseY := v.toNat / 0x20 % 32) (coarseX := v.toNat % 32)
    (by omega) (by omega) (by omega) (by omega))⟩
  apply BitVec.eq_of_toNat_eq
  rw [BitVec.toNat_ofNat]
  omega

end Sys2Proof.Machine
end

section
/-! PROOF. The scroll updates field by field (spec/61_ppu.md R488). -/

namespace Sys2Proof.Machine

section

variable (fineY fineY' : BitVec 3) (ntY ntY' ntX ntX' : BitVec 1) (coarseY coarseY' coarseX coarseX' : BitVec 5)

theorem incX_loopy : incX (loopy fineY ntY ntX coarseY coarseX) =
    if coarseX = 31 then loopy fineY ntY (ntX ^^^ 1) coarseY 0 else loopy fineY ntY ntX coarseY (coarseX + 1) := by
  have hlast : loopy fineY ntY ntX coarseY coarseX &&& 0x001F#15 = 31#15 ↔ coarseX = 31 := by
    rw [show 0x001F#15 = loopy 0 0 0 0 31 from rfl, loopy_and, loopy_inj]
    simp
  simp only [incX, hlast]
  split
  · rw [show 0x7FE0#15 = loopy 7 1 1 31 0 from rfl,
      show 0x0400#15 = loopy 0 0 1 0 0 from rfl, loopy_and, loopy_xor]
    simp
  · next h =>
    apply BitVec.eq_of_toNat_eq
    have := fineY.isLt; have := ntY.isLt; have := ntX.isLt; have := coarseY.isLt; have := coarseX.isLt
    have : coarseX.toNat ≠ 31 := fun h' => h (BitVec.eq_of_toNat_eq h')
    simp only [BitVec.toNat_add, loopy_toNat, BitVec.ofNat_eq_ofNat, BitVec.toNat_ofNat]
    omega

theorem loopy_add_fineY (h : fineY ≠ 7) :
    loopy fineY ntY ntX coarseY coarseX + 0x1000#15 = loopy (fineY + 1) ntY ntX coarseY coarseX := by
  have : fineY.toNat ≠ 7 := fun h' => h (BitVec.eq_of_toNat_eq h')
  have := fineY.isLt; have := ntY.isLt; have := ntX.isLt; have := coarseY.isLt; have := coarseX.isLt
  apply BitVec.eq_of_toNat_eq
  simp only [BitVec.toNat_add, loopy_toNat, BitVec.ofNat_eq_ofNat, BitVec.toNat_ofNat]
  omega

/-- Coarse Y alone, as the pseudocode of R488 takes it out. -/
theorem loopy_shiftRight_five :
    (loopy 0 ntY ntX coarseY coarseX >>> 5) &&& 0x1F#15 = loopy 0 0 0 0 coarseY := by
  have := ntY.isLt; have := ntX.isLt; have := coarseY.isLt; have := coarseX.isLt
  apply BitVec.eq_of_toNat_eq
  rw [BitVec.toNat_and, BitVec.toNat_ushiftRight, Nat.shiftRight_eq_div_pow,
    show (0x1F#15).toNat = 2 ^ 5 - 1 from rfl, Nat.and_two_pow_sub_one_eq_mod]
  simp only [loopy_toNat, BitVec.ofNat_eq_ofNat, BitVec.toNat_ofNat]
  omega

/-- The next coarse Y, put back in its place. -/
theorem loopy_next_row (h : coarseY ≠ 31) :
    (loopy 0 0 0 0 coarseY + 1) <<< 5 = loopy 0 0 0 (coarseY + 1) 0 := by
  have : coarseY.toNat ≠ 31 := fun h' => h (BitVec.eq_of_toNat_eq h')
  have := coarseY.isLt
  apply BitVec.eq_of_toNat_eq
  simp only [BitVec.toNat_shiftLeft, BitVec.toNat_add, loopy_toNat, BitVec.ofNat_eq_ofNat, BitVec.toNat_ofNat, Nat.shiftLeft_eq]
  omega

theorem incY_loopy : incY (loopy fineY ntY ntX coarseY coarseX) =
    if fineY ≠ 7 then loopy (fineY + 1) ntY ntX coarseY coarseX
    else if coarseY = 29 then loopy 0 (ntY ^^^ 1) ntX 0 coarseX
    else if coarseY = 31 then loopy 0 ntY ntX 0 coarseX
    else loopy 0 ntY ntX (coarseY + 1) coarseX := by
  have hfine : loopy fineY ntY ntX coarseY coarseX &&& 0x7000#15 ≠ 0x7000#15 ↔ fineY ≠ 7 := by
    rw [show 0x7000#15 = loopy 7 0 0 0 0 from rfl, loopy_and, Ne, loopy_inj]
    simp
  have hrest : loopy fineY ntY ntX coarseY coarseX &&& 0x0FFF#15 = loopy 0 ntY ntX coarseY coarseX := by
    rw [show 0x0FFF#15 = loopy 0 1 1 31 31 from rfl, loopy_and]
    simp
  have hrow : loopy 0 ntY ntX coarseY coarseX &&& 0x7C1F#15 = loopy 0 ntY ntX 0 coarseX := by
    rw [show 0x7C1F#15 = loopy 7 1 1 0 31 from rfl, loopy_and]
    simp
  simp only [incY, hfine, hrest, loopy_shiftRight_five, hrow]
  simp only [show 29#15 = loopy 0 0 0 0 29 from rfl, show 31#15 = loopy 0 0 0 0 31 from rfl, loopy_inj, true_and]
  split_ifs with h7 h29 h31
  · exact loopy_add_fineY _ _ _ _ _ h7
  · rw [show 0x0800#15 = loopy 0 1 0 0 0 from rfl, show 0x7C1F#15 = loopy 7 1 1 0 31 from rfl, loopy_xor, loopy_and]
    simp
  · rfl
  · rw [loopy_next_row _ h31, loopy_or]
    simp

theorem copyX_loopy : copyX (loopy fineY ntY ntX coarseY coarseX) (loopy fineY' ntY' ntX' coarseY' coarseX') =
    loopy fineY ntY ntX' coarseY coarseX' := by
  rw [copyX, show 0x7BE0#15 = loopy 7 1 0 31 0 from rfl,
    show 0x041F#15 = loopy 0 0 1 0 31 from rfl, loopy_and, loopy_and, loopy_or]
  simp

theorem copyY_loopy : copyY (loopy fineY ntY ntX coarseY coarseX) (loopy fineY' ntY' ntX' coarseY' coarseX') =
    loopy fineY' ntY' ntX coarseY' coarseX := by
  rw [copyY, show 0x7BE0#15 = loopy 7 1 0 31 0 from rfl,
    show 0x041F#15 = loopy 0 0 1 0 31 from rfl, loopy_and, loopy_and, loopy_or]
  simp

end

/-- The other nametable of the two in one direction. -/
theorem ofNat_one_sub {n : Nat} (h : n < 2) : BitVec.ofNat 1 (1 - n) = BitVec.ofNat 1 n ^^^ 1 := by
  interval_cases n <;> rfl

theorem ofNat_eq_iff {w n k : Nat} (hn : n < 2 ^ w) (hk : k < 2 ^ w) : BitVec.ofNat w n = BitVec.ofNat w k ↔ n = k := by
  rw [← BitVec.toNat_inj, BitVec.toNat_ofNat, BitVec.toNat_ofNat, Nat.mod_eq_of_lt hn, Nat.mod_eq_of_lt hk]

/-- Settles O30: each update is computed on the fields. -/
theorem scrollCounters : Obligations.ScrollCounters := by
  unfold Obligations.ScrollCounters
  dsimp only
  intro fineY ntY ntX coarseY coarseX fineY' ntY' ntX' coarseY' coarseX' hfineY hntY hntX hcoarseY hcoarseX
    hfineY' hntY' hntX' hcoarseY' hcoarseX'
  have hv := ofNat_eq_loopy (fineY := fineY) hntY hntX hcoarseY hcoarseX
  have ht := ofNat_eq_loopy (fineY := fineY') hntY' hntX' hcoarseY' hcoarseX'
  have hzero : 0 < 32 := by decide
  refine ⟨?incX, ?incY, ?copyX, ?copyY⟩
  case incX =>
    have hlast : BitVec.ofNat 5 coarseX = 31 ↔ coarseX = 31 := ofNat_eq_iff hcoarseX (by decide)
    rw [hv, incX_loopy]
    simp only [hlast]
    split
    · rw [ofNat_eq_loopy hntY (by omega) hcoarseY hzero, ofNat_one_sub hntX]
      rfl
    · rw [ofNat_eq_loopy hntY hntX hcoarseY (by omega), BitVec.ofNat_add]
      rfl
  case incY =>
    have hfine : BitVec.ofNat 3 fineY ≠ 7 ↔ fineY < 7 := (ofNat_eq_iff (k := 7) hfineY (by decide)).not.trans (by omega)
    have h29 : BitVec.ofNat 5 coarseY = 29 ↔ coarseY = 29 := ofNat_eq_iff hcoarseY (by decide)
    have h31 : BitVec.ofNat 5 coarseY = 31 ↔ coarseY = 31 := ofNat_eq_iff hcoarseY (by decide)
    rw [hv, incY_loopy]
    simp only [hfine, h29, h31]
    split_ifs
    · rw [ofNat_eq_loopy hntY hntX hcoarseY hcoarseX, BitVec.ofNat_add]
      rfl
    · rw [ofNat_eq_loopy (by omega) hntX hzero hcoarseX, ofNat_one_sub hntY]
      rfl
    · rw [ofNat_eq_loopy hntY hntX hzero hcoarseX]
      rfl
    · rw [ofNat_eq_loopy hntY hntX (by omega) hcoarseX, BitVec.ofNat_add]
      rfl
  case copyX => rw [hv, ht, copyX_loopy, ofNat_eq_loopy hntY hntX' hcoarseY hcoarseX']
  case copyY => rw [hv, ht, copyY_loopy, ofNat_eq_loopy hntY' hntX hcoarseY' hcoarseX]

end Sys2Proof.Machine
end

section
/-! PROOF. PPUSCROLL and PPUADDR in arithmetic on t and v (spec/61_ppu.md R464, R465). -/

namespace Sys2Proof.Machine

/-! What PPUSCROLL puts into t. -/

theorem setWidth_three (d : Byte) : d.setWidth 3 = BitVec.ofNat 3 (d.toNat % 8) := by
  apply BitVec.eq_of_toNat_eq
  simp

theorem coarse_of_byte (d : Byte) : (d >>> 3).setWidth 15 = loopy 0 0 0 0 (BitVec.ofNat 5 (d.toNat / 8)) := by
  have := d.isLt
  apply BitVec.eq_of_toNat_eq
  simp only [loopy_toNat, BitVec.toNat_setWidth, BitVec.toNat_ushiftRight, Nat.shiftRight_eq_div_pow,
    BitVec.ofNat_eq_ofNat, BitVec.toNat_ofNat]
  omega

theorem fineY_of_byte (d : Byte) :
    (d &&& 0x07#8).setWidth 15 <<< 12 = loopy (BitVec.ofNat 3 (d.toNat % 8)) 0 0 0 0 := by
  apply BitVec.eq_of_toNat_eq
  rw [BitVec.toNat_shiftLeft, BitVec.toNat_setWidth, BitVec.toNat_and, show (0x07#8).toNat = 2 ^ 3 - 1 from rfl,
    Nat.and_two_pow_sub_one_eq_mod, Nat.shiftLeft_eq]
  simp only [loopy_toNat, BitVec.ofNat_eq_ofNat, BitVec.toNat_ofNat]
  omega

theorem and_high_five (d : Byte) : d &&& 0xF8#8 = d >>> 3 <<< 3 := by
  ext i hi
  interval_cases i <;> simp

theorem coarseY_of_byte (d : Byte) :
    (d &&& 0xF8#8).setWidth 15 <<< 2 = loopy 0 0 0 (BitVec.ofNat 5 (d.toNat / 8)) 0 := by
  have := d.isLt
  rw [and_high_five]
  apply BitVec.eq_of_toNat_eq
  simp only [loopy_toNat, BitVec.toNat_shiftLeft, BitVec.toNat_setWidth, BitVec.toNat_ushiftRight, Nat.shiftLeft_eq,
    Nat.shiftRight_eq_div_pow, BitVec.ofNat_eq_ofNat, BitVec.toNat_ofNat]
  omega

theorem scroll_first (t : BitVec 15) (d : Byte) :
    (t &&& 0x7FE0#15) ||| (d >>> 3).setWidth 15 = BitVec.ofNat 15 (32 * (t.toNat / 32) + d.toNat / 8) := by
  obtain ⟨fineY, ntY, ntX, coarseY, coarseX, rfl⟩ := exists_eq_loopy t
  rw [coarse_of_byte, show 0x7FE0#15 = loopy 7 1 1 31 0 from rfl, loopy_and, loopy_or]
  apply BitVec.eq_of_toNat_eq
  have := d.isLt
  simp [loopy_toNat]
  omega

theorem scroll_second (t : BitVec 15) (d : Byte) :
    (t &&& 0x0C1F#15) ||| ((d &&& 0x07#8).setWidth 15 <<< 12) ||| ((d &&& 0xF8#8).setWidth 15 <<< 2) =
      BitVec.ofNat 15 (0x1000 * (d.toNat % 8) + 0x400 * (t.toNat / 0x400 % 4) + 32 * (d.toNat / 8) + t.toNat % 32) := by
  obtain ⟨fineY, ntY, ntX, coarseY, coarseX, rfl⟩ := exists_eq_loopy t
  have hrow : d.toNat / 8 < 32 := by have := d.isLt; omega
  have hsum (f c : Nat) : 0x1000 * f + 0x400 * (2 * ntY.toNat + ntX.toNat) + 32 * c + coarseX.toNat =
      0x1000 * f + 0x800 * ntY.toNat + 0x400 * ntX.toNat + 0x20 * c + coarseX.toNat := by omega
  rw [loopy_toNat_nametables, loopy_toNat_coarseX, hsum, ofNat_eq_loopy ntY.isLt ntX.isLt hrow coarseX.isLt,
    fineY_of_byte, coarseY_of_byte, show 0x0C1F#15 = loopy 0 1 1 0 31 from rfl, loopy_and, loopy_or, loopy_or]
  simp

/-! What PPUADDR puts into t. -/

theorem setWidth_fifteen_toNat (d : Byte) : (d.setWidth 15).toNat = d.toNat := by
  have := d.isLt
  rw [BitVec.toNat_setWidth, Nat.mod_eq_of_lt (by omega)]

theorem ppuAddr_high (t : BitVec 15) (d : Byte) :
    (t &&& 0x00FF#15) ||| ((d &&& 0x3F#8).setWidth 15 <<< 8) =
      BitVec.ofNat 15 (256 * (d.toNat % 64) + t.toNat % 256) := by
  apply BitVec.eq_of_toNat_eq
  have hlow : t.toNat % 2 ^ 8 < 2 ^ 8 := Nat.mod_lt _ (by decide)
  rw [BitVec.toNat_or, BitVec.toNat_shiftLeft, setWidth_fifteen_toNat, BitVec.toNat_and, BitVec.toNat_and,
    show (0x00FF#15).toNat = 2 ^ 8 - 1 from rfl, show (0x3F#8).toNat = 2 ^ 6 - 1 from rfl,
    Nat.and_two_pow_sub_one_eq_mod, Nat.and_two_pow_sub_one_eq_mod, Nat.mod_eq_of_lt (a := _ <<< 8)
      (by rw [Nat.shiftLeft_eq]; omega), Nat.or_comm, ← Nat.shiftLeft_add_eq_or_of_lt hlow, Nat.shiftLeft_eq,
    BitVec.toNat_ofNat]
  omega

theorem and_high_seven (t : BitVec 15) : t &&& 0x7F00#15 = t >>> 8 <<< 8 := by
  ext i hi
  interval_cases i <;> simp

theorem ppuAddr_low (t : BitVec 15) (d : Byte) :
    (t &&& 0x7F00#15) ||| d.setWidth 15 = BitVec.ofNat 15 (256 * (t.toNat / 256) + d.toNat) := by
  have := t.isLt
  apply BitVec.eq_of_toNat_eq
  rw [and_high_seven, BitVec.toNat_or, BitVec.toNat_shiftLeft, BitVec.toNat_ushiftRight, setWidth_fifteen_toNat,
    Nat.shiftRight_eq_div_pow, Nat.mod_eq_of_lt (by rw [Nat.shiftLeft_eq]; omega),
    ← Nat.shiftLeft_add_eq_or_of_lt d.isLt, Nat.shiftLeft_eq, BitVec.toNat_ofNat]
  omega

/-! The ports. -/

section

variable {s : State} (d : Byte)

theorem busWrite_scroll_first (h : s.ppu.w = false) : busWrite 0x2005 d s = .ok () { s with ppu := { s.ppu with
    latch := d, w := true, x := BitVec.ofNat 3 (d.toNat % 8)
    t := BitVec.ofNat 15 (32 * (s.ppu.t.toNat / 32) + d.toNat / 8) } } := by
  rw [← scroll_first, ← setWidth_three, busWrite_ppuReg _ d s (by decide) (by decide)]
  simp [ppuRegWrite, writeScroll, h]

theorem busWrite_scroll_second (h : s.ppu.w = true) : busWrite 0x2005 d s = .ok () { s with ppu := { s.ppu with
    latch := d, w := false
    t := BitVec.ofNat 15 (0x1000 * (d.toNat % 8) + 0x400 * (s.ppu.t.toNat / 0x400 % 4) + 32 * (d.toNat / 8) +
      s.ppu.t.toNat % 32) } } := by
  rw [← scroll_second, busWrite_ppuReg _ d s (by decide) (by decide)]
  simp [ppuRegWrite, writeScroll, h]

theorem busWrite_ppuAddr_first (h : s.ppu.w = false) : busWrite 0x2006 d s = .ok () { s with ppu := { s.ppu with
    latch := d, w := true, t := BitVec.ofNat 15 (256 * (d.toNat % 64) + s.ppu.t.toNat % 256) } } := by
  rw [← ppuAddr_high, busWrite_ppuReg _ d s (by decide) (by decide)]
  simp [ppuRegWrite, writePpuAddr, h]

theorem busWrite_ppuAddr_second (h : s.ppu.w = true) : busWrite 0x2006 d s = .ok () { s with ppu := { s.ppu with
    latch := d, w := false
    t := BitVec.ofNat 15 (256 * (s.ppu.t.toNat / 256) + d.toNat)
    v := BitVec.ofNat 15 (256 * (s.ppu.t.toNat / 256) + d.toNat) } } := by
  rw [← ppuAddr_low, busWrite_ppuReg _ d s (by decide) (by decide)]
  simp [ppuRegWrite, writePpuAddr, h]

end

/-- The high byte that the first PPUADDR write left in t. -/
theorem ppuAddr_high_div (hi : Byte) (n : Nat) :
    (BitVec.ofNat 15 (256 * (hi.toNat % 64) + n % 256)).toNat / 256 = hi.toNat % 64 := by
  rw [BitVec.toNat_ofNat]
  omega

/-- Settles O29: the four writes in arithmetic, the two of PPUADDR one after the other. -/
theorem scrollPorts : Obligations.ScrollPorts := by
  unfold Obligations.ScrollPorts
  refine ⟨fun d s h => ⟨busWrite_scroll_first d h, busWrite_ppuAddr_first d h⟩,
    fun d s h => ⟨busWrite_scroll_second d h, busWrite_ppuAddr_second d h⟩,
    fun hi lo s h => ⟨_, _, busWrite_ppuAddr_first hi h, busWrite_ppuAddr_second lo rfl, ?_, rfl, rfl⟩⟩
  simp only [ppuAddr_high_div]

end Sys2Proof.Machine
end

section
/-! PROOF. PPUSTATUS, PPUDATA and the registers with a plain effect (spec/61_ppu.md R452 to R467, R504). -/

namespace Sys2Proof.Machine

/-! The status byte and the NMI condition. -/

/-- The five low bits of a byte under flags that lie above them. -/
theorem low_five_or_eq (x flags : Byte) (h : flags.toNat % 32 = 0) :
    (x &&& 0x1F#8) ||| flags = BitVec.ofNat 8 (x.toNat % 32 + flags.toNat) := by
  have hx : x.toNat % 2 ^ 5 < 2 ^ 5 := Nat.mod_lt _ (by decide)
  have hflags : flags.toNat = (flags.toNat / 32) <<< 5 := by
    rw [Nat.shiftLeft_eq]
    omega
  apply BitVec.eq_of_toNat_eq
  rw [BitVec.toNat_or, BitVec.toNat_and, show (0x1F#8).toNat = 2 ^ 5 - 1 from rfl, Nat.and_two_pow_sub_one_eq_mod,
    BitVec.toNat_ofNat, hflags, Nat.or_comm, ← Nat.shiftLeft_add_eq_or_of_lt hx, Nat.shiftLeft_eq]
  have := flags.isLt
  omega

theorem statusByte_eq (p : Ppu) : statusByte p = BitVec.ofNat 8
    (p.latch.toNat % 32 + 32 * p.overflow.toNat + 64 * p.sprite0Hit.toNat + 128 * p.vblank.toNat) := by
  unfold statusByte
  rw [BitVec.or_assoc, BitVec.or_assoc, low_five_or_eq]
  · cases p.overflow <;> cases p.sprite0Hit <;> cases p.vblank <;> simp
  · cases p.overflow <;> cases p.sprite0Hit <;> cases p.vblank <;> rfl

/-- Settles O26: clearing vblank makes the NMI condition false, which is no rising edge. -/
theorem statusRead : Obligations.StatusRead := by
  unfold Obligations.StatusRead
  refine ⟨fun s => ?_, fun s => ?_⟩
  · rw [← statusByte_eq, busRead_ppuReg _ s (by decide) (by decide)]
    simp [ppuRegRead, readStatus, nmiChange]
  · simp [nmiChange]

/-! The PPUDATA port. -/

/-- The PPU bus decodes the low 14 bits of an address (R110). -/
theorem ppuRead_congr {a b : Addr} (h : a.toNat % 0x4000 = b.toNat % 0x4000) (s : State) : ppuRead a s = ppuRead b s := by
  simp only [ppuRead, h]

theorem ppuWrite_congr {a b : Addr} (h : a.toNat % 0x4000 = b.toNat % 0x4000) (v : Byte) (s : State) :
    ppuWrite a v s = ppuWrite b v s := by
  simp only [ppuWrite, h]

/-- The address that a PPUDATA access drives. -/
theorem dataAddr_mod (v : BitVec 15) :
    (BitVec.ofNat 16 (v.toNat % 0x4000)).toNat % 0x4000 = (v.setWidth 16).toNat % 0x4000 := by
  simp only [BitVec.toNat_ofNat, BitVec.toNat_setWidth]
  omega

/-- The nametable address under a palette address (R455). -/
theorem underAddr_eq {v : BitVec 15} (h : 0x3F00 ≤ v.toNat % 0x4000) :
    (v - 0x1000#15).setWidth 16 = BitVec.ofNat 16 (v.toNat - 0x1000) := by
  have := v.isLt
  apply BitVec.eq_of_toNat_eq
  simp only [BitVec.toNat_setWidth, BitVec.toNat_sub, BitVec.toNat_ofNat]
  omega

/-- The step of v, by PPUCTRL bit 2 (R456). -/
theorem incrementV_eq (s : State) : incrementV s = { s with ppu := { s.ppu with
    v := BitVec.ofNat 15 (s.ppu.v.toNat + if s.ppu.ctrl.getLsbD 2 then 32 else 1) } } := by
  unfold incrementV
  rw [BitVec.ofNat_add, BitVec.ofNat_toNat, BitVec.setWidth_eq]
  cases s.ppu.ctrl.getLsbD 2 <;> rfl

/-- A write on the PPU bus neither reads nor writes the PPU's own items. -/
theorem ppuWrite_withPpu (a : Addr) (v : Byte) (p : Ppu) (s : State) :
    ppuWrite a v { s with ppu := p } = { ppuWrite a v s with ppu := p } := by
  unfold ppuWrite mapperPpuWrite
  simp only
  split_ifs <;> rfl

/-- A PPUDATA write stores at v and steps v (R466). -/
theorem writePpuData_eq (d : Byte) (s : State) : writePpuData d s =
    { ppuWrite (s.ppu.v.setWidth 16) d s with ppu := (incrementV s).ppu } := by
  obtain ⟨hppu, -⟩ := ppuWrite_ppu_cfg (s.ppu.v.setWidth 16) d s
  simp only [writePpuData, observePpu_eq]
  rw [ppuWrite_congr (dataAddr_mod s.ppu.v), incrementV, incrementV, hppu]

/-- Settles O27: the two accesses of a read are at v and at the nametable byte under it, and every access ends with the step of v. -/
theorem dataPort : Obligations.DataPort := by
  unfold Obligations.DataPort
  refine ⟨fun s h => ?_, fun s h => ?_, fun d s => ⟨ppuRegWrite 7 d s, ?_, ?_, ?_⟩⟩
  · rw [busRead_ppuReg _ s (by decide) (by decide), ← ppuRead_congr (dataAddr_mod s.ppu.v)]
    simp [ppuRegRead, readPpuData, incrementV_eq, h]
  · rw [busRead_ppuReg _ s (by decide) (by decide), ← ppuRead_congr (dataAddr_mod s.ppu.v), ← underAddr_eq h]
    simp [ppuRegRead, readPpuData, incrementV_eq, Nat.not_lt.2 h]
  · exact busWrite_ppuReg _ d s (by decide) (by decide)
  · simp only [ppuRegWrite, writePpuData_eq, incrementV_eq]
  · simp only [ppuRegWrite, writePpuData_eq, ppuWrite_withPpu]
    exact congrArg (fun p => { ppuWrite (s.ppu.v.setWidth 16) d s with ppu := p })
      (ppuWrite_ppu_cfg (s.ppu.v.setWidth 16) d s).1.symm

/-! The registers with a plain effect. -/

/-- Settles O28, port by port. -/
theorem plainPorts : Obligations.PlainPorts := by
  unfold Obligations.PlainPorts
  have read (a : Addr) (s : State) := busRead_ppuReg a s
  have write (a : Addr) (d : Byte) (s : State) := busWrite_ppuReg a d s
  refine ⟨fun s => ⟨fun a ha => ?_, read _ s (by decide) (by decide)⟩, fun d s => ⟨write _ d s (by decide) (by decide),
    write _ d s (by decide) (by decide), write _ d s (by decide) (by decide), write _ d s (by decide) (by decide),
    write _ d s (by decide) (by decide)⟩⟩
  simp only [List.mem_cons, List.not_mem_nil, or_false] at ha
  obtain rfl | rfl | rfl | rfl | rfl := ha <;> exact read _ s (by decide) (by decide)

end Sys2Proof.Machine
end

section
/-! PROOF. The controllers (spec/62_mapper_devices.md R585, R586). -/

namespace Sys2Proof.Machine

/-- The bit a read shifts out is the button at the index, and 0 from index 8 on. -/
theorem padBit_eq (buttons : Byte) (index : Nat) :
    padBit buttons index = if index < 8 ∧ buttons.getLsbD index = true then 1 else 0 := by
  unfold padBit
  by_cases h : index < 8 <;> cases hb : buttons.getLsbD index <;> simp [h]

/-- Reads that reached the end of the shift register stay there. -/
theorem padBit_min_eight (buttons : Byte) (k : Nat) :
    padBit buttons (min k 8) = if buttons.getLsbD k then 1 else 0 := by
  rw [padBit_eq]
  by_cases h : k < 8
  · simp [Nat.min_eq_left (Nat.le_of_lt h), h]
  · simp [Nat.min_eq_right (Nat.le_of_not_lt h), BitVec.getLsbD_of_ge buttons k (Nat.le_of_not_lt h)]

/-- `k` reads of controller 1 after a strobe (R585). -/
theorem readPad1_iterate (k : Nat) {s : State} (hstrobe : s.pads.strobe = false) (hindex : s.pads.index1 = 0) :
    (fun t => (readPad1 t).2)^[k] s = { s with pads := { s.pads with index1 := min k 8 } } := by
  induction k with
  | zero =>
    show s = { s with pads := { s.pads with index1 := 0 } }
    rw [← hindex]
  | succ k ih =>
    rw [Function.iterate_succ_apply', ih]
    simp [readPad1, padNext, hstrobe]
    omega

/-- `k` reads of controller 2 after a strobe (R585). -/
theorem readPad2_iterate (k : Nat) {s : State} (hstrobe : s.pads.strobe = false) (hindex : s.pads.index2 = 0) :
    (fun t => (readPad2 t).2)^[k] s = { s with pads := { s.pads with index2 := min k 8 } } := by
  induction k with
  | zero =>
    show s = { s with pads := { s.pads with index2 := 0 } }
    rw [← hindex]
  | succ k ih =>
    rw [Function.iterate_succ_apply', ih]
    simp [readPad2, padNext, hstrobe]
    omega

/-- Settles O25: the strobe sets both indices to 0, and each read moves its own by one. -/
theorem controllers : Obligations.Controllers := by
  unfold Obligations.Controllers
  refine ⟨fun s => ?_, fun s => ?_, fun v s => busWrite_strobe _ v s rfl, fun s k => ⟨?_, ?_⟩⟩
  · rw [busRead_pad1 _ s rfl, ← padBit_eq]
    rfl
  · rw [busRead_pad2 _ s rfl, ← padBit_eq]
    rfl
  · rw [readPad1_iterate k rfl rfl]
    exact padBit_min_eight s.pads.buttons1 k
  · rw [readPad2_iterate k rfl rfl]
    exact padBit_min_eight s.pads.buttons2 k

end Sys2Proof.Machine
end

section
/-! PROOF. The bank windows and mappers 0, 2 and 3 (spec/62_mapper_devices.md R550 to R570). -/

namespace Sys2Proof.Machine

/-! The bank windows. -/

/-- The window and the place in it of an address that lies in window `i` at offset `k`. -/
theorem window_div_mod {w k : Nat} (i : Nat) (hk : k < w) : (i * w + k) / w = i ∧ (i * w + k) % w = k := by
  have hw : 0 < w := by omega
  rw [Nat.mul_comm i w, Nat.mul_add_div hw, Nat.mul_add_mod, Nat.div_eq_of_lt hk, Nat.mod_eq_of_lt hk]
  exact ⟨Nat.add_zero i, rfl⟩

/-- A window just set holds its bank. -/
theorem getD_set_self {windows : List Nat} {i : Nat} (bank : Nat) (hi : i < windows.length) :
    (windows.set i bank).getD i 0 = bank := by
  simp [List.getD_eq_getElem?_getD, hi]

/-- A read of the ROM range is a read of PRG ROM (R552). -/
theorem mapperCpuRead_rom {n : Nat} (s : State) (hn : 0x8000 ≤ n) :
    mapperCpuRead n s = Memory.read s.prgRom (prgOffset n s) := by
  rw [mapperCpuRead_eq, defaultCpuRead, if_neg (by omega)]

/-- Settles O18: an address of a window names that window and its place in it, and the window just set holds its bank. -/
theorem windowProperty : Obligations.WindowProperty := by
  unfold Obligations.WindowProperty
  refine ⟨fun s i b k _ _ hk hi _ => ⟨rfl, ?_⟩, fun s i b k _ _ hk hi _ => ⟨rfl, ?_⟩⟩
  · obtain ⟨hwindow, hplace⟩ := window_div_mod i hk
    have hn : 0x8000 + i * s.map.prgW + k - 0x8000 = i * s.map.prgW + k := by omega
    rw [mapperCpuRead_rom _ (by omega), prgOffset, hn]
    simp only [setPrgWindow, hwindow, hplace, getD_set_self _ hi]
    rfl
  · obtain ⟨hwindow, hplace⟩ := window_div_mod i hk
    rw [mapperPpuRead, chrOffset]
    simp only [setChrWindow, hwindow, hplace, getD_set_self _ hi]
    rfl

/-! The concrete mappers. -/

theorem bankIndex_natCast (b n : Nat) : bankIndex b n = b % n := by
  rw [bankIndex, ← Int.natCast_mod, Int.toNat_natCast]

/-- Bank -1 is the last one (R551). -/
theorem bankIndex_neg_one {n : Nat} (hn : 0 < n) : bankIndex (-1) n = n - 1 := by
  have hlast : (-1 : Int) % n = n - 1 := by
    rw [← Int.add_emod_right, Int.emod_eq_of_lt (by omega) (by omega)]
    omega
  rw [bankIndex, hlast]
  omega

/-- The initial windows of the three mappers (R560, R564, R567). -/
theorem initialMap_eq (k : MapperKind) {prgSize chrSize : Nat} (hprg : 16384 ≤ prgSize) :
    initialMap k prgSize chrSize = ⟨16384, 8192, [0, prgSize / 16384 - 1], [0], []⟩ := by
  have hlast := bankIndex_neg_one (n := prgSize / 16384) (by omega)
  have hfirst (n : Nat) : bankIndex 0 n = 0 := by simp [bankIndex]
  cases k <;> simp [initialMap, mapperDesc, hlast, hfirst]

/-- A CPU write of the ROM range, by mapper (R560, R564, R567). -/
theorem busWrite_rom (a : Addr) (v : Byte) (s : State) (ha : 0x8000 ≤ a.toNat) :
    busWrite a v s = .ok () (match s.cart.kind with
      | .nrom => s
      | .uxrom => { s with map := { s.map with prgWin := s.map.prgWin.set 0 (v.toNat % prgBanks s) } }
      | .cnrom => { s with map := { s.map with chrWin := s.map.chrWin.set 0 (v.toNat % chrBanks s) } }) := by
  rw [busWrite_mapper a v s (by omega), mapperCpuWrite_cases _ v s (Nat.le_of_lt_succ a.isLt), if_neg (by omega)]
  cases s.cart.kind with
  | nrom => rfl
  | uxrom => simp only [setPrgWindow, bankIndex_natCast]
  | cnrom => simp only [setChrWindow, bankIndex_natCast]

/-- The PRG window of an address and the place in its bank (R552). -/
theorem prgOffset_of_window {n bank : Nat} {s : State} (h : s.map.prgWin[(n - 0x8000) / s.map.prgW]? = some bank) :
    prgOffset n s = bank * s.map.prgW + (n - 0x8000) % s.map.prgW := by
  rw [prgOffset, List.getD_eq_getElem?_getD, h, Option.getD_some]

/-- Settles O19: the default accesses, the two write hooks, and no other hook (`Laws/Mapper.lean`). -/
theorem concreteMappers : Obligations.ConcreteMappers := by
  unfold Obligations.ConcreteMappers
  refine ⟨fun k _ _ hprg _ => initialMap_eq k hprg, busWrite_rom, fun a v s hlow hhigh => ⟨?_, ?_⟩,
    fun a bank s ha hbank => ?_, fun a n s => ⟨mapperReadEffect_eq n s, observePpu_eq a s, observeCpu_eq n s, irqInput_eq s⟩⟩
  · rw [busRead_mapper a s hlow, mapperCpuRead_eq, defaultCpuRead, if_pos hhigh]
  · rw [busWrite_mapper a v s hlow, mapperCpuWrite_cases _ v s (by omega), if_pos hhigh]
  · rw [busRead_mapper a s (by omega), mapperCpuRead_rom s ha, prgOffset_of_window hbank]

end Sys2Proof.Machine
end

section
/-! PROOF. Loading an image and serialising it again (spec/62_mapper_devices.md R556, R580 to R584). -/

namespace Sys2Proof.Machine

/-! What loading answers. -/

/-- Behind the magic of an image: the PRG count is checked first, the length last (R581). -/
theorem malformedAt_of_header {image : List Byte} (hlen : 16 ≤ image.length)
    (hmagic : firstDifference 0 (image.take 4) imageMagic = none) :
    malformedAt image = if prgCount image = 0 then some 4
      else if image.length < imageSize image then some image.length else none := by
  rw [malformedAt, if_neg (Nat.not_lt.2 hlen), hmagic]

theorem malformedAt_of_magic {image : List Byte} {k : Nat} (hlen : 16 ≤ image.length)
    (hmagic : firstDifference 0 (image.take 4) imageMagic = some k) : malformedAt image = some k := by
  rw [malformedAt, if_neg (Nat.not_lt.2 hlen), hmagic]

theorem malformedAt_eq_none_iff {image : List Byte} : malformedAt image = none ↔ 16 ≤ image.length ∧
    firstDifference 0 (image.take 4) imageMagic = none ∧ prgCount image ≠ 0 ∧ imageSize image ≤ image.length := by
  by_cases hlen : 16 ≤ image.length
  · cases hmagic : firstDifference 0 (image.take 4) imageMagic with
    | some k => simp [malformedAt_of_magic hlen hmagic]
    | none =>
      rw [malformedAt_of_header hlen hmagic]
      split_ifs with hprg hsize
      · simp [hprg]
      · simp [Nat.not_le.2 hsize]
      · simp [hlen, hprg, Nat.le_of_not_lt hsize]
  · simp [malformedAt, Nat.lt_of_not_le hlen]

theorem loadImage_of_malformed {set image : List Byte} {k : Nat} (h : malformedAt image = some k) :
    loadImage set image = .error (.malformedHeader k) := by
  simp only [loadImage, h]

theorem loadImage_of_unsupported {set image : List Byte} (h : malformedAt image = none)
    (hmapper : selectMapper set (mapperId image) = none) :
    loadImage set image = .error (.unsupportedMapper (mapperId image)) := by
  simp only [loadImage, h, hmapper]

theorem loadImage_of_supported {set image : List Byte} {kind : MapperKind} (h : malformedAt image = none)
    (hmapper : selectMapper set (mapperId image) = some kind) : loadImage set image = .ok (cartOf kind image) := by
  simp only [loadImage, h, hmapper]

/-- An image that loads is well formed, and loading builds its cartridge. -/
theorem loadImage_ok {set image : List Byte} {l : Loaded} (h : loadImage set image = .ok l) :
    malformedAt image = none ∧ ∃ kind, l = cartOf kind image := by
  cases hm : malformedAt image with
  | some k =>
    rw [loadImage_of_malformed hm] at h
    cases h
  | none =>
    cases hs : selectMapper set (mapperId image) with
    | none =>
      rw [loadImage_of_unsupported hm hs] at h
      cases h
    | some kind =>
      rw [loadImage_of_supported hm hs] at h
      cases h
      exact ⟨rfl, kind, rfl⟩

/-! The round trip. -/

/-- The parts of a well-formed image, one after the other. -/
theorem take_imageSize (image : List Byte) :
    image.take (imageSize image) = image.take 16 ++ (image.drop 16).take (trainerSize image) ++
      (image.drop (16 + trainerSize image)).take (16384 * prgCount image) ++
      ((image.drop (16 + trainerSize image)).drop (16384 * prgCount image)).take (8192 * chrCount image) := by
  rw [imageSize, List.take_add, List.take_add, List.take_add, List.drop_drop]

/-- The CHR bytes that serialising writes: none for CHR-RAM, and those of the image for CHR ROM. -/
theorem serialised_chr {image : List Byte} (kind : MapperKind) (chrRam : Mem) (h : imageSize image ≤ image.length) :
    (if (cartOf kind image).cart.chrIsRam then [] else
      Memory.toBytes (cartOf kind image).cart.chrSize
        (if (cartOf kind image).cart.chrIsRam then chrRam else (cartOf kind image).chrRom)) =
      ((image.drop (16 + trainerSize image)).drop (16384 * prgCount image)).take (8192 * chrCount image) := by
  by_cases hchr : chrCount image = 0
  · simp [cartOf, hchr]
  · simp only [cartOf, hchr, decide_false, if_false, Bool.false_eq_true]
    refine Memory.toBytes_ofBytes _ _ ?_
    rw [imageSize] at h
    simp only [List.length_take, List.length_drop]
    omega

/-- Settles O21: serialising writes the parts that loading took out, in their order. -/
theorem imageRoundTrip : Obligations.ImageRoundTrip := by
  unfold Obligations.ImageRoundTrip
  intro set image l chrRam h
  obtain ⟨hwf, kind, rfl⟩ := loadImage_ok h
  obtain ⟨-, -, -, hsize⟩ := malformedAt_eq_none_iff.1 hwf
  have hprg : Memory.toBytes (cartOf kind image).cart.prgSize (cartOf kind image).prgRom =
      (image.drop (16 + trainerSize image)).take (16384 * prgCount image) := by
    refine Memory.toBytes_ofBytes _ _ ?_
    rw [imageSize] at hsize
    simp only [List.length_take, List.length_drop, cartOf]
    omega
  have hserial : serialise (cartOf kind image).cart (cartOf kind image).prgRom
      (if (cartOf kind image).cart.chrIsRam then chrRam else (cartOf kind image).chrRom) =
        image.take (imageSize image) := by
    rw [serialise, serialised_chr kind chrRam hsize, hprg, take_imageSize]
    rfl
  exact ⟨hserial, fun hlen => by rw [hserial, ← hlen, List.take_length]⟩

/-! The load-time faults. -/

/-- The first difference of two strings that agree before a place and differ there. -/
theorem firstDifference_of_prefix {k j : Nat} {xs ys : List Byte} (hx : k < xs.length) (hy : k < ys.length)
    (hprefix : xs.take k = ys.take k) (hdiff : xs.getD k 0 ≠ ys.getD k 0) : firstDifference j xs ys = some (j + k) := by
  induction k generalizing j xs ys with
  | zero =>
    cases xs with
    | nil => cases hx
    | cons x xs =>
      cases ys with
      | nil => cases hy
      | cons y ys => exact if_neg hdiff
  | succ k ih =>
    cases xs with
    | nil => cases hx
    | cons x xs =>
      cases ys with
      | nil => cases hy
      | cons y ys =>
        simp only [List.take_succ_cons, List.cons.injEq] at hprefix
        obtain ⟨rfl, hprefix⟩ := hprefix
        rw [firstDifference, if_pos rfl,
          ih (Nat.lt_of_succ_lt_succ hx) (Nat.lt_of_succ_lt_succ hy) hprefix (by simpa using hdiff)]
        congr 1
        omega

theorem getD_take {k n : Nat} (image : List Byte) (h : k < n) : (image.take n).getD k 0 = image.getD k 0 := by
  simp [List.getD_eq_getElem?_getD, List.getElem?_take_of_lt h]

/-- `mapper_id` in arithmetic (R582). -/
theorem mapperId_eq (image : List Byte) :
    mapperId image = BitVec.ofNat 8 (16 * ((image.getD 7 0).toNat / 16) + (image.getD 6 0).toNat / 16) := by
  have hlow : (image.getD 6 0).toNat / 2 ^ 4 < 2 ^ 4 := by have := (image.getD 6 0).isLt; omega
  have hmask (x : Byte) : x &&& 0xF0#8 = x >>> 4 <<< 4 := by
    ext i hi
    interval_cases i <;> simp
  have := (image.getD 7 0).isLt
  apply BitVec.eq_of_toNat_eq
  rw [mapperId, hmask, BitVec.toNat_or, BitVec.toNat_shiftLeft, BitVec.toNat_ushiftRight, BitVec.toNat_ushiftRight,
    Nat.shiftRight_eq_div_pow, Nat.shiftRight_eq_div_pow, Nat.mod_eq_of_lt (by rw [Nat.shiftLeft_eq]; omega),
    ← Nat.shiftLeft_add_eq_or_of_lt hlow, Nat.shiftLeft_eq, BitVec.toNat_ofNat]
  omega

/-! Trailing bytes. -/

section

variable {image : List Byte} {n : Nat}

/-- A header byte of an image cut off behind its header. -/
theorem getD_take_header {k : Nat} (hn : 16 ≤ n) (hk : k < 16) : (image.take n).getD k 0 = image.getD k 0 :=
  getD_take image (Nat.lt_of_lt_of_le hk hn)

theorem prgCount_take (hn : 16 ≤ n) : prgCount (image.take n) = prgCount image :=
  congrArg BitVec.toNat (getD_take_header hn (by decide))

theorem chrCount_take (hn : 16 ≤ n) : chrCount (image.take n) = chrCount image :=
  congrArg BitVec.toNat (getD_take_header hn (by decide))

theorem trainerSize_take (hn : 16 ≤ n) : trainerSize (image.take n) = trainerSize image := by
  rw [trainerSize, trainerSize, hasTrainer, hasTrainer, getD_take_header hn (by decide)]

theorem mapperId_take (hn : 16 ≤ n) : mapperId (image.take n) = mapperId image := by
  rw [mapperId, mapperId, getD_take_header hn (by decide), getD_take_header hn (by decide)]

theorem headerMirror_take (hn : 16 ≤ n) : headerMirror (image.take n) = headerMirror image := by
  rw [headerMirror, headerMirror, getD_take_header hn (by decide)]

theorem imageSize_take (hn : 16 ≤ n) : imageSize (image.take n) = imageSize image := by
  rw [imageSize, imageSize, trainerSize_take hn, prgCount_take hn, chrCount_take hn]

theorem sixteen_le_imageSize (image : List Byte) : 16 ≤ imageSize image := by
  rw [imageSize]
  omega

/-- A part of an image that lies before the cut. -/
theorem take_drop_take {i j : Nat} (h : i + j ≤ n) : ((image.take n).drop i).take j = (image.drop i).take j := by
  rw [List.drop_take, List.take_take, Nat.min_eq_left (by omega)]

/-- The bytes after the CHR data are no part of the cartridge. -/
theorem cartOf_take (kind : MapperKind) (h : imageSize image ≤ n) : cartOf kind (image.take n) = cartOf kind image := by
  have hn := Nat.le_trans (sixteen_le_imageSize image) h
  have hheader : (image.take n).take 16 = image.take 16 := take_drop_take (i := 0) (by omega)
  rw [imageSize] at h
  simp only [cartOf, prgCount_take hn, chrCount_take hn, trainerSize_take hn, headerMirror_take hn, List.drop_drop]
  rw [hheader, take_drop_take (by omega), take_drop_take (by omega), take_drop_take (by omega)]

end

/-- An image stays well formed without its trailing bytes. -/
theorem malformedAt_take (hwf : malformedAt image = none) : malformedAt (image.take (imageSize image)) = none := by
  obtain ⟨-, hmagic, hprg, hsize⟩ := malformedAt_eq_none_iff.1 hwf
  have hn := sixteen_le_imageSize image
  have hlen : (image.take (imageSize image)).length = imageSize image := by
    rw [List.length_take, Nat.min_eq_left hsize]
  have hmagic' : (image.take (imageSize image)).take 4 = image.take 4 := take_drop_take (i := 0) (by omega)
  rw [malformedAt_eq_none_iff, hlen, hmagic', prgCount_take hn, imageSize_take hn]
  exact ⟨hn, hmagic, hprg, Nat.le_refl _⟩

/-- The mapper of an id in `MAPPER_SET` that this model has. -/
theorem selectMapper_eq_some {set : List Byte} {id : Byte} (hset : id ∈ set) (hid : id = 0 ∨ id = 2 ∨ id = 3) :
    ∃ kind, selectMapper set id = some kind := by
  rw [selectMapper, if_pos (List.contains_iff_mem.2 hset)]
  obtain rfl | rfl | rfl := hid
  · exact ⟨.nrom, rfl⟩
  · exact ⟨.uxrom, rfl⟩
  · exact ⟨.cnrom, rfl⟩

theorem selectMapper_eq_none {set : List Byte} {id : Byte} (hset : id ∉ set) : selectMapper set id = none :=
  if_neg fun h => hset (List.contains_iff_mem.1 h)

/-- An image of a known mapper loads with and without its trailing bytes, to the same cartridge. -/
theorem loadImage_take {set image : List Byte} (hwf : malformedAt image = none) (hset : mapperId image ∈ set)
    (hid : mapperId image = 0 ∨ mapperId image = 2 ∨ mapperId image = 3) :
    ∃ l, loadImage set image = .ok l ∧ loadImage set (image.take (imageSize image)) = .ok l := by
  obtain ⟨kind, hkind⟩ := selectMapper_eq_some hset hid
  have hkind' : selectMapper set (mapperId (image.take (imageSize image))) = some kind := by
    rw [mapperId_take (sixteen_le_imageSize image), hkind]
  refine ⟨_, loadImage_of_supported hwf hkind, ?_⟩
  rw [loadImage_of_supported (malformedAt_take hwf) hkind', cartOf_take kind (Nat.le_refl _)]

/-- Settles O22: the checks of R581 in their order, then the mapper of the header. -/
theorem loadFaults : Obligations.LoadFaults := by
  unfold Obligations.LoadFaults
  refine ⟨fun set image hlen => loadImage_of_malformed (if_pos hlen), fun set image k hlen hk hprefix hdiff => ?_,
    fun set rest hrest => ?_⟩
  · refine loadImage_of_malformed (malformedAt_of_magic hlen ?_)
    rw [← Nat.zero_add k]
    refine firstDifference_of_prefix ?_ hk ?_ ?_
    · rw [List.length_take]
      omega
    · rwa [List.take_take, Nat.min_eq_left (by omega)]
    · rwa [getD_take image hk]
  · intro image size id
    have hlen : 16 ≤ image.length := Nat.add_le_add_right hrest 4
    have hmagic : firstDifference 0 (image.take 4) imageMagic = none := by simp [image, firstDifference, imageMagic]
    have hcheck := malformedAt_of_header hlen hmagic
    have hid : mapperId image = id := mapperId_eq image
    have hprg (h : image.getD 4 0 ≠ 0) : prgCount image ≠ 0 := fun h' => h (BitVec.eq_of_toNat_eq h')
    have hwf (h4 : image.getD 4 0 ≠ 0) (hsize : size ≤ image.length) : malformedAt image = none :=
      hcheck.trans ((if_neg (hprg h4)).trans (if_neg (Nat.not_lt.2 hsize)))
    rw [← hid]
    refine ⟨fun h4 => ?_, fun h4 hsize => ?_, fun h4 hsize hset => ?_, fun h4 hsize hset hknown => ?_⟩
    · exact loadImage_of_malformed (hcheck.trans (if_pos (congrArg BitVec.toNat h4)))
    · exact loadImage_of_malformed (hcheck.trans ((if_neg (hprg h4)).trans (if_pos hsize)))
    · exact loadImage_of_unsupported (hwf h4 hsize) (selectMapper_eq_none hset)
    · exact loadImage_take (hwf h4 hsize) hset hknown

end Sys2Proof.Machine
end

section
/-! PROOF. Power-on and the warm reset (spec/70_reset_and_hazards.md R600 to R605). -/

namespace Sys2Proof.Machine

/-- The reset vector as the two bytes of the bus (R601). -/
theorem vectorAt_reset (s : State) : vectorAt 0xFFFC s = word16 (readValue 0xFFFD s) (readValue 0xFFFC s) := by
  rw [readValue_mapper s (by decide), readValue_mapper s (by decide)]
  rfl

/-- `PpuReset()` in one update (R603): with PPUCTRL 0 the NMI condition is false. -/
theorem ppuReset_eq (s : State) : ppuReset s = { s with ppu := { s.ppu with
    cycle := 340, scanline := 240, frame := 0, odd := false, ctrl := 0x00, mask := 0x00, oamAddr := 0x00
    nmiPrevious := false } } := by
  simp [ppuReset, nmiChange]

/-- A cartridge that loads has at least one bank of PRG ROM (R581). -/
theorem prgSize_ge_of_loadImage {set image : List Byte} {l : Loaded} (h : loadImage set image = .ok l) :
    16384 ≤ l.cart.prgSize := by
  obtain ⟨hwf, kind, rfl⟩ := loadImage_ok h
  obtain ⟨-, -, hprg, -⟩ := malformedAt_eq_none_iff.1 hwf
  show 16384 ≤ 16384 * prgCount image
  omega

/-- A memory made of zero bytes lists nothing. -/
theorem ofBytes_replicate_zero (k n : Nat) : Memory.ofBytes k (List.replicate n 0#8) = [] := by
  induction n generalizing k with
  | zero => rfl
  | succ n ih => exact (if_pos rfl).trans (ih (k + 1))

/-! The blank image of log 1. -/

/-- The header of the blank cartridge and `n` zero bytes. -/
def zeroImage (n : Nat) : List Byte := Cart.blank.header ++ List.replicate n 0

section

variable (n : Nat)

theorem prgCount_zeroImage : prgCount (zeroImage n) = 1 := rfl

theorem chrCount_zeroImage : chrCount (zeroImage n) = 1 := rfl

theorem flags6_zeroImage : (zeroImage n).getD 6 0 = 0 := rfl

theorem flags7_zeroImage : (zeroImage n).getD 7 0 = 0 := rfl

theorem trainerSize_zeroImage : trainerSize (zeroImage n) = 0 := by
  rw [trainerSize, hasTrainer, flags6_zeroImage]
  rfl

theorem mapperId_zeroImage : mapperId (zeroImage n) = 0 := by
  rw [mapperId, flags6_zeroImage, flags7_zeroImage]
  rfl

theorem headerMirror_zeroImage : headerMirror (zeroImage n) = .horizontal := by
  rw [headerMirror, flags6_zeroImage]
  rfl

theorem imageSize_zeroImage : imageSize (zeroImage n) = 24592 := by
  rw [imageSize, trainerSize_zeroImage, prgCount_zeroImage, chrCount_zeroImage]

theorem cartOf_zeroImage : cartOf .nrom (zeroImage n) = ⟨Cart.blank, [], [], .horizontal⟩ := by
  have hbytes : (zeroImage n).drop 16 = List.replicate n 0 := rfl
  have hheader : (zeroImage n).take 16 = Cart.blank.header := rfl
  simp [cartOf, trainerSize_zeroImage, prgCount_zeroImage, chrCount_zeroImage, headerMirror_zeroImage, hheader, hbytes,
    ofBytes_replicate_zero, Cart.blank]

end

theorem malformedAt_zeroImage {n : Nat} (hn : 24576 ≤ n) : malformedAt (zeroImage n) = none := by
  have hlen : (zeroImage n).length = 16 + n := by
    rw [zeroImage, List.length_append, List.length_replicate]
    rfl
  rw [malformedAt_eq_none_iff, hlen, imageSize_zeroImage]
  exact ⟨by omega, rfl, Nat.one_ne_zero, by omega⟩

theorem loadImage_zeroImage {n : Nat} (hn : 24576 ≤ n) :
    loadImage Params.default.mapperSet (zeroImage n) = .ok ⟨Cart.blank, [], [], .horizontal⟩ := by
  have hkind : selectMapper Params.default.mapperSet (mapperId (zeroImage n)) = some .nrom := by
    rw [mapperId_zeroImage]
    rfl
  rw [loadImage_of_supported (malformedAt_zeroImage hn) hkind, cartOf_zeroImage]

theorem startUp_blank : startUp Params.default ⟨Cart.blank, [], [], .horizontal⟩ MemInit.zeros = State.reset := by
  rfl

end Sys2Proof.Machine

namespace Sys2Proof

open Machine

/-- Settles O24: the PPU reset and the start at the vector, after the updates of R602; PC does not bear on the vector read. -/
theorem warmReset : Obligations.WarmReset := by
  unfold Obligations.WarmReset
  intro s
  rw [Machine.warmReset, ppuReset_eq, startAtVector_eq, ← vectorAt_reset]
  rfl

/-- Settles O23: the assignments of R600, then the PPU reset and the start at the vector. -/
theorem powerOn : Obligations.PowerOn := by
  unfold Obligations.PowerOn
  intro cfg image init
  refine ⟨fun e h => by simp only [Machine.powerOn, h], fun l h => ⟨startUp cfg l init, by simp only [Machine.powerOn, h], ?_⟩⟩
  have hmap := initialMap_eq l.cart.kind (chrSize := l.cart.chrSize) (prgSize_ge_of_loadImage h)
  rw [← vectorAt_reset, startUp, ppuReset_eq, startAtVector_eq]
  have hflags : Flags.powerOn.toByte = 0x24 := by decide
  exact ⟨rfl, rfl, rfl, rfl, hflags, rfl, rfl, rfl, rfl, rfl, rfl, rfl, rfl, rfl, rfl, rfl, rfl, rfl, rfl, hmap, rfl, rfl,
    rfl, rfl⟩

/-- Settles O60: the invariants hold of the literal state, and power-on with the blank image computes it. -/
theorem resetInvariants : Obligations.ResetInvariants := by
  unfold Obligations.ResetInvariants
  refine ⟨?_, ?_, ?_, ?_, ?_⟩
  · unfold MemoryInv MapInv
    decide
  · unfold StatusInv
    decide
  · unfold PpuInv
    decide
  · unfold PadInv
    decide
  · show Machine.powerOn Params.default (zeroImage 24576) MemInit.zeros = .ok State.reset
    simp only [Machine.powerOn, loadImage_zeroImage (Nat.le_refl _), startUp_blank]

end Sys2Proof
end

section
/-! PROOF. Sprite evaluation in closed form (spec/61_ppu.md R490 to R492). -/

namespace Sys2Proof.Machine

/-! The loop of R490. -/

/-- The slots after the sprites of a list fill them from slot `n` on; there is no slot beyond the eighth. -/
def filledSlots (s : State) : Nat → List Nat → Vector SpriteSlot 8 → Vector SpriteSlot 8
  | _, [], slots => slots
  | n, i :: l, slots => filledSlots s (n + 1) l (slots.setIfInBounds n (spriteSlot i s))

/-- The sprites of a list that cover the scanline (R490). -/
def coveringOf (s : State) (l : List Nat) : List Nat := l.filter fun i => covers (Memory.read s.oam (4 * i)) s

/-- The sprites that cover the scanline, in ascending order (R490). -/
def coveringSprites (s : State) : List Nat := coveringOf s (List.range 64)

/-- A ninth slot does not exist, so the loop may fill it or not. -/
theorem fillSlot_of_le {n : Nat} (h : 8 ≤ n) (i : Nat) (s : State) : fillSlot n i s = s := by
  rw [fillSlot_eq, Vector.setIfInBounds_eq_of_size_le h]

theorem evaluateOne_of_covers {n i : Nat} {s : State} (h : covers (Memory.read s.oam (4 * i)) s = true) :
    evaluateOne (n, s) i = (n + 1, fillSlot n i s) := by
  by_cases hn : n < 8
  · simp [evaluateOne, h, hn]
  · simp [evaluateOne, h, hn, fillSlot_of_le (Nat.le_of_not_lt hn)]

theorem evaluateOne_of_not_covers {n i : Nat} {s : State} (h : covers (Memory.read s.oam (4 * i)) s = false) :
    evaluateOne (n, s) i = (n, s) := by
  simp [evaluateOne, h]

/-- The slots filled so far bear neither on what covers the scanline nor on what fills a slot. -/
theorem evaluate_foldl_eq (s : State) (l : List Nat) (n : Nat) (slots : Vector SpriteSlot 8) :
    l.foldl evaluateOne (n, { s with ppu := { s.ppu with slots := slots } }) =
      (n + (coveringOf s l).length,
        { s with ppu := { s.ppu with slots := filledSlots s n (coveringOf s l) slots } }) := by
  induction l generalizing n slots with
  | nil => rfl
  | cons i l ih =>
    rw [List.foldl_cons]
    cases h : covers (Memory.read s.oam (4 * i)) s with
    | true =>
      have hone := evaluateOne_of_covers (n := n) (s := { s with ppu := { s.ppu with slots := slots } }) h
      have hl : coveringOf s (i :: l) = i :: coveringOf s l := List.filter_cons_of_pos h
      have hlen : n + (i :: coveringOf s l).length = n + 1 + (coveringOf s l).length := by
        rw [List.length_cons]; omega
      rw [hone, fillSlot_eq, hl, filledSlots, hlen]
      exact ih (n + 1) (slots.setIfInBounds n (spriteSlot i s))
    | false =>
      have hone := evaluateOne_of_not_covers (n := n) (s := { s with ppu := { s.ppu with slots := slots } }) h
      have hl : coveringOf s (i :: l) = coveringOf s l := List.filter_cons_of_neg (by simp [h])
      rw [hone, hl]
      exact ih n slots

theorem evaluateSprites_eq (s : State) : evaluateSprites s = { s with ppu := { s.ppu with
    slots := filledSlots s 0 (coveringSprites s) s.ppu.slots
    spriteCount := min (coveringSprites s).length 8
    overflow := s.ppu.overflow || decide (8 < (coveringSprites s).length) } } := by
  have hloop := evaluate_foldl_eq s (List.range 64) 0 s.ppu.slots
  rw [Nat.zero_add] at hloop
  unfold evaluateSprites
  simp only
  rw [show ((0, s) : Nat × State) = (0, { s with ppu := { s.ppu with slots := s.ppu.slots } }) from rfl, hloop]
  rfl

/-! The slots. -/

theorem slots_getD_eq (slots : Vector SpriteSlot 8) (k : Nat) (d : SpriteSlot) :
    slots.getD k d = slots[k]?.getD d := by
  rw [Vector.getD, Array.getD_eq_getD_getElem?, Vector.getElem?_toArray]

theorem filledSlots_getD_of_le (s : State) {k : Nat} (l : List Nat) (n : Nat) (slots : Vector SpriteSlot 8)
    (h : k < n ∨ n + l.length ≤ k) :
    (filledSlots s n l slots).getD k SpriteSlot.zero = slots.getD k SpriteSlot.zero := by
  induction l generalizing n slots with
  | nil => rfl
  | cons i l ih =>
    rw [List.length_cons] at h
    rw [filledSlots, ih (n + 1) _ (by omega), slots_getD_eq, slots_getD_eq,
      Vector.getElem?_setIfInBounds_ne (by omega)]

theorem filledSlots_getD (s : State) {k i : Nat} (hk : k < 8) (l : List Nat) (n : Nat) (slots : Vector SpriteSlot 8)
    (hn : n ≤ k) (hi : l[k - n]? = some i) : (filledSlots s n l slots).getD k SpriteSlot.zero = spriteSlot i s := by
  induction l generalizing n slots with
  | nil => simp at hi
  | cons j l ih =>
    rw [filledSlots]
    rcases Nat.eq_or_lt_of_le hn with rfl | hlt
    · have hij : j = i := by simpa using hi
      rw [filledSlots_getD_of_le s l (n + 1) _ (.inl (Nat.lt_succ_self n)), slots_getD_eq,
        Vector.getElem?_setIfInBounds_self_of_lt hk, hij, Option.getD_some]
    · refine ih (n + 1) _ hlt ?_
      rwa [show k - n = k - (n + 1) + 1 by omega, List.getElem?_cons_succ] at hi

/-- Settles O35: the loop fills slot `k` with the `k`-th covering sprite. -/
theorem spriteEvaluation : Obligations.SpriteEvaluation := by
  unfold Obligations.SpriteEvaluation
  intro s height y hits t
  have hhits : coveringSprites s = hits := List.filter_congr fun i _ => by
    rw [covers, ← Bool.decide_and, decide_eq_decide]
    show y i ≤ s.ppu.scanline ∧ s.ppu.scanline - y i < height ↔ _
    omega
  have ht : t = _ := evaluateSprites_eq s
  rw [hhits] at ht
  refine ⟨by rw [ht], by rw [ht], fun k i hk hi => ?_, fun k hk => ?_⟩
  · rw [slotAt, ht]
    exact filledSlots_getD s hk hits 0 _ (Nat.zero_le k) hi
  · rw [slotAt, ht]
    exact filledSlots_getD_of_le s hits 0 _ (.inr (by omega))

end Sys2Proof.Machine
end

section
/-! SUPPORT. A tick in closed form (spec/61_ppu.md R485 to R487): the position moves, then one update says all the tick does at the new position. -/

namespace Sys2Proof.Machine

/-! What sprite evaluation reads. -/

/-- The same sprites are evaluated to the same slots in both states. -/
structure SameSprites (s t : State) : Prop where
  covers : ∀ i, covers (Memory.read s.oam (4 * i)) s = covers (Memory.read t.oam (4 * i)) t
  slot : ∀ i, spriteSlot i s = spriteSlot i t
  slots : s.ppu.slots = t.ppu.slots
  overflow : s.ppu.overflow = t.ppu.overflow

theorem SameSprites.filledSlots {s t : State} (h : SameSprites s t) (l : List Nat) (n : Nat)
    (slots : Vector SpriteSlot 8) : filledSlots s n l slots = Machine.filledSlots t n l slots := by
  induction l generalizing n slots with
  | nil => rfl
  | cons i l ih => rw [Machine.filledSlots, Machine.filledSlots, h.slot, ih]

theorem SameSprites.coveringSprites {s t : State} (h : SameSprites s t) :
    coveringSprites s = Machine.coveringSprites t :=
  List.filter_congr fun i _ => h.covers i

theorem SameSprites.evaluated {s t : State} (h : SameSprites s t) :
    (evaluateSprites s).ppu.slots = (evaluateSprites t).ppu.slots ∧
      (evaluateSprites s).ppu.spriteCount = (evaluateSprites t).ppu.spriteCount ∧
      (evaluateSprites s).ppu.overflow = (evaluateSprites t).ppu.overflow := by
  rw [evaluateSprites_eq s, evaluateSprites_eq t, h.coveringSprites, h.filledSlots, h.slots, h.overflow]
  exact ⟨rfl, rfl, rfl⟩

/-! The position. -/

/-- The state when the tick acts: the NMI countdown done and the position moved (R485 steps 1 and 2). -/
def moved (s : State) : State :=
  if skipsTick s then skipToNextFrame (countNmi s) else advancePosition (countNmi s)

/-- Nothing happens at cycle 0 of a line. -/
theorem actAtPosition_of_cycle_zero {s : State} (h : s.ppu.cycle = 0) : actAtPosition s = s := by
  simp [actAtPosition, renderAt, onlyIf, h]

theorem skipsTick_countNmi (s : State) : skipsTick (countNmi s) = skipsTick s := by
  rw [countNmi_eq]; rfl

/-- The tick that skips a position lands where there is nothing to do, so every tick acts where it lands. -/
theorem tick_eq (s : State) : tick s = actAtPosition (moved s) := by
  rw [tick, moved, skipsTick_countNmi]
  split
  · exact (actAtPosition_of_cycle_zero rfl).symm
  · rfl

/-! What a tick does where it lands. -/

/-- What a tick does at position (l, c) before the sprites: draw, fetch and scroll (R485). -/
def drawFetchScroll (c l : Nat) (s : State) : State :=
  let pre := decide (l = 261)
  let visible := decide (l ≤ 239)
  let fetching := (decide (1 ≤ c) && decide (c ≤ 256)) || (decide (321 ≤ c) && decide (c ≤ 336))
  let line := visible || pre
  let s := onlyIf (visible && decide (1 ≤ c) && decide (c ≤ 256)) renderPixel s
  let s := onlyIf (line && fetching) (fun s => fetchStep (shiftTile s)) s
  let s := onlyIf (pre && decide (280 ≤ c) && decide (c ≤ 304)) (setV fun p => copyY p.v p.t) s
  let s := onlyIf (line && fetching && decide (c % 8 = 0)) (setV fun p => incX p.v) s
  let s := onlyIf (line && decide (c = 256)) (setV fun p => incY p.v) s
  onlyIf (line && decide (c = 257)) (setV fun p => copyX p.v p.t) s

theorem renderAt_eq_spriteStep (c l : Nat) (s : State) :
    renderAt c l s = onlyIf (decide (c = 257)) (spriteStep (decide (l ≤ 239))) (drawFetchScroll c l s) := rfl

/-- The scroll update of a position: no two of the four fall on one cycle, except that X is incremented before Y at 256. -/
theorem scroll_eq (c l : Nat) (v t : BitVec 15) :
    let line := l ≤ 239 ∨ l = 261
    let fetching := line ∧ ((1 ≤ c ∧ c ≤ 256) ∨ (321 ≤ c ∧ c ≤ 336))
    let v1 := if (l = 261 ∧ 280 ≤ c) ∧ c ≤ 304 then copyY v t else v
    let v2 := if fetching ∧ c % 8 = 0 then incX v1 else v1
    let v3 := if line ∧ c = 256 then incY v2 else v2
    (if line ∧ c = 257 then copyX v3 t else v3) =
      if line ∧ c = 257 then copyX v t
      else if l = 261 ∧ 280 ≤ c ∧ c ≤ 304 then copyY v t
      else if line ∧ c = 256 then incY (incX v)
      else if fetching ∧ c % 8 = 0 then incX v
      else v := by
  intro line fetching v1 v2 v3
  by_cases h257 : line ∧ c = 257
  · have h1 : v1 = v := if_neg (by omega)
    have h2 : v2 = v1 := if_neg (by omega)
    have h3 : v3 = v2 := if_neg (by omega)
    rw [if_pos h257, if_pos h257, h3, h2, h1]
  rw [if_neg h257, if_neg h257]
  by_cases hcopy : l = 261 ∧ 280 ≤ c ∧ c ≤ 304
  · have h1 : v1 = copyY v t := if_pos (by omega)
    have h2 : v2 = v1 := if_neg (by omega)
    have h3 : v3 = v2 := if_neg (by omega)
    rw [if_pos hcopy, h3, h2, h1]
  have h1 : v1 = v := if_neg (by omega)
  rw [if_neg hcopy]
  by_cases h256 : line ∧ c = 256
  · have h2 : v2 = incX v1 := if_pos (by omega)
    have h3 : v3 = incY v2 := if_pos h256
    rw [if_pos h256, h3, h2, h1]
  · have h3 : v3 = v2 := if_neg h256
    rw [if_neg h256, h3, ← h1]

theorem drawFetchScroll_eq (s : State) : drawFetchScroll s.ppu.cycle s.ppu.scanline s =
    let p := s.ppu
    let c := p.cycle
    let l := p.scanline
    let onLine := l ≤ 239 ∨ l = 261
    let fetching := onLine ∧ ((1 ≤ c ∧ c ≤ 256) ∨ (321 ≤ c ∧ c ≤ 336))
    let drawing := l ≤ 239 ∧ 1 ≤ c ∧ c ≤ 256
    { s with ppu := { p with
        back := if drawing then (renderPixel s).ppu.back else p.back
        sprite0Hit := if drawing then (renderPixel s).ppu.sprite0Hit else p.sprite0Hit
        tileData := if fetching then (p.tileData <<< 4) |||
          (if c % 8 = 0 then (packTile p.atBits p.ptLow p.ptHigh).setWidth 64 else 0) else p.tileData
        ntByte := if fetching ∧ c % 8 = 1 then (fetchNametable s).ppu.ntByte else p.ntByte
        atBits := if fetching ∧ c % 8 = 3 then (fetchAttribute s).ppu.atBits else p.atBits
        ptLow := if fetching ∧ c % 8 = 5 then (fetchPatternLow s).ppu.ptLow else p.ptLow
        ptHigh := if fetching ∧ c % 8 = 7 then (fetchPatternHigh s).ppu.ptHigh else p.ptHigh
        v := if onLine ∧ c = 257 then copyX p.v p.t
          else if l = 261 ∧ 280 ≤ c ∧ c ≤ 304 then copyY p.v p.t
          else if onLine ∧ c = 256 then incY (incX p.v)
          else if fetching ∧ c % 8 = 0 then incX p.v
          else p.v } } := by
  simp only [drawFetchScroll, onlyIf_renderPixel, onlyIf_fetch, onlyIf_setV, Bool.and_eq_true,
    Bool.or_eq_true, decide_eq_true_eq, and_assoc]
  have hv := scroll_eq s.ppu.cycle s.ppu.scanline s.ppu.v s.ppu.t
  simp only [and_assoc] at hv
  rw [hv]
  rfl

/-- What a tick with rendering enabled does at its position (R485 step 3). -/
theorem renderAt_eq (s : State) : renderAt s.ppu.cycle s.ppu.scanline s =
    let p := s.ppu
    let c := p.cycle
    let l := p.scanline
    let u := drawFetchScroll c l s
    { u with ppu := { u.ppu with
        slots := if c = 257 ∧ l ≤ 239 then (evaluateSprites s).ppu.slots else p.slots
        spriteCount := if c = 257 then (if l ≤ 239 then (evaluateSprites s).ppu.spriteCount else 0) else p.spriteCount
        overflow := if c = 257 ∧ l ≤ 239 then (evaluateSprites s).ppu.overflow else p.overflow } } := by
  have hsame : SameSprites (drawFetchScroll s.ppu.cycle s.ppu.scanline s) s := by
    rw [drawFetchScroll_eq]
    exact ⟨fun _ => rfl, fun _ => rfl, rfl, rfl⟩
  obtain ⟨hslots, hcount, hoverflow⟩ := hsame.evaluated
  have hcount0 : (drawFetchScroll s.ppu.cycle s.ppu.scanline s).ppu.spriteCount = s.ppu.spriteCount := by
    rw [drawFetchScroll_eq]
  simp only [renderAt_eq_spriteStep, onlyIf_spriteStep, hslots, hcount, hoverflow, hsame.slots, hsame.overflow, hcount0,
    Bool.and_eq_true, decide_eq_true_eq]

/-- The vertical blank begins and ends at two different positions. -/
theorem vblankEvents_eq (c l : Nat) (s : State) :
    onlyIf (decide (l = 261) && decide (c = 1)) clearFlags (onlyIf (decide (l = 241) && decide (c = 1)) setVblank s) =
    let setsFlags := l = 241 ∧ c = 1
    let clearsFlags := l = 261 ∧ c = 1
    { s with ppu := { s.ppu with
        sprite0Hit := if clearsFlags then false else s.ppu.sprite0Hit
        overflow := if clearsFlags then false else s.ppu.overflow
        vblank := if setsFlags then true else if clearsFlags then false else s.ppu.vblank
        front := if setsFlags then s.ppu.back else s.ppu.front
        nmiPrevious := if setsFlags then s.ppu.ctrl.getLsbD 7 else if clearsFlags then false else s.ppu.nmiPrevious
        nmiDelay := if setsFlags ∧ s.ppu.ctrl.getLsbD 7 = true ∧ s.ppu.nmiPrevious = false then s.cfg.nmiDelayTicks
          else s.ppu.nmiDelay } } := by
  simp only [onlyIf_setVblank, onlyIf_clearFlags, Bool.and_eq_true, decide_eq_true_eq]
  by_cases hset : l = 241 ∧ c = 1
  · have hclear : ¬(l = 261 ∧ c = 1) := by omega
    simp only [if_pos hset, if_neg hclear]
  · simp only [if_neg hset]

/-- All that acting at a position does (R485 step 3, R488, R490, R496 to R498). -/
theorem actAtPosition_eq (s : State) : actAtPosition s =
    let p := s.ppu
    let c := p.cycle
    let l := p.scanline
    let rendering := p.mask.getLsbD 3 = true ∨ p.mask.getLsbD 4 = true
    let onLine := rendering ∧ (l ≤ 239 ∨ l = 261)
    let fetching := onLine ∧ ((1 ≤ c ∧ c ≤ 256) ∨ (321 ≤ c ∧ c ≤ 336))
    let drawing := rendering ∧ l ≤ 239 ∧ 1 ≤ c ∧ c ≤ 256
    let sprites := rendering ∧ c = 257
    let setsFlags := l = 241 ∧ c = 1
    let clearsFlags := l = 261 ∧ c = 1
    { s with ppu := { p with
        back := if drawing then (renderPixel s).ppu.back else p.back
        sprite0Hit := if clearsFlags then false else if drawing then (renderPixel s).ppu.sprite0Hit else p.sprite0Hit
        tileData := if fetching then (p.tileData <<< 4) |||
          (if c % 8 = 0 then (packTile p.atBits p.ptLow p.ptHigh).setWidth 64 else 0) else p.tileData
        ntByte := if fetching ∧ c % 8 = 1 then (fetchNametable s).ppu.ntByte else p.ntByte
        atBits := if fetching ∧ c % 8 = 3 then (fetchAttribute s).ppu.atBits else p.atBits
        ptLow := if fetching ∧ c % 8 = 5 then (fetchPatternLow s).ppu.ptLow else p.ptLow
        ptHigh := if fetching ∧ c % 8 = 7 then (fetchPatternHigh s).ppu.ptHigh else p.ptHigh
        v := if onLine ∧ c = 257 then copyX p.v p.t
          else if rendering ∧ l = 261 ∧ 280 ≤ c ∧ c ≤ 304 then copyY p.v p.t
          else if onLine ∧ c = 256 then incY (incX p.v)
          else if fetching ∧ c % 8 = 0 then incX p.v
          else p.v
        slots := if sprites ∧ l ≤ 239 then (evaluateSprites s).ppu.slots else p.slots
        spriteCount := if sprites then (if l ≤ 239 then (evaluateSprites s).ppu.spriteCount else 0) else p.spriteCount
        overflow := if clearsFlags then false
          else if sprites ∧ l ≤ 239 then (evaluateSprites s).ppu.overflow else p.overflow
        vblank := if setsFlags then true else if clearsFlags then false else p.vblank
        front := if setsFlags then p.back else p.front
        nmiPrevious := if setsFlags then p.ctrl.getLsbD 7 else if clearsFlags then false else p.nmiPrevious
        nmiDelay := if setsFlags ∧ p.ctrl.getLsbD 7 = true ∧ p.nmiPrevious = false then s.cfg.nmiDelayTicks
          else p.nmiDelay } } := by
  by_cases h : s.ppu.mask.getLsbD 3 = true ∨ s.ppu.mask.getLsbD 4 = true
  · have hr : rendering s = true := by rw [rendering, Bool.or_eq_true]; exact h
    simp only [actAtPosition, vblankEvents_eq]
    simp only [onlyIf, hr, if_true, renderAt_eq, drawFetchScroll_eq, h, true_and]
    congr 2
    split
    · next hset => rw [if_neg (by omega)]
    · rfl
  · have hr : rendering s = false := by rw [rendering]; simpa using h
    simp only [actAtPosition, vblankEvents_eq]
    simp only [onlyIf, hr, h, false_and, if_false]
    rfl

/-! PROOF. The obligations about the tick. -/

/-- The state of a tick from a position in range when it acts. -/
theorem moved_eq (s : State) (hc : s.ppu.cycle ≤ 340) (hl : s.ppu.scanline ≤ 261) :
    let p := s.ppu
    let rendering := p.mask.getLsbD 3 = true ∨ p.mask.getLsbD 4 = true
    let skips := p.odd = true ∧ p.scanline = 261 ∧ p.cycle = 339 ∧ (rendering ∨ s.cfg.oddSkipNeedsRendering = false)
    let c := if skips ∨ p.cycle = 340 then 0 else p.cycle + 1
    let l := if skips then 0 else if p.cycle = 340 then (if p.scanline = 261 then 0 else p.scanline + 1) else p.scanline
    moved s = { s with
      nmiPending := s.nmiPending || (decide (p.nmiDelay = 1) && p.ctrl.getLsbD 7 && p.vblank)
      ppu := { p with
        cycle := c, scanline := l
        frame := if l = 0 ∧ c = 0 then p.frame + 1 else p.frame
        odd := if l = 0 ∧ c = 0 then !p.odd else p.odd
        nmiDelay := p.nmiDelay - 1 } } := by
  intro p rendering skips c l
  have hskips : skipsTick s = decide skips := by
    simp [skipsTick, Machine.rendering, skips, rendering, p, Bool.and_assoc]
  rw [moved, hskips, countNmi_eq]
  by_cases h : skips
  · have hc0 : c = 0 := if_pos (.inl h)
    have hl0 : l = 0 := if_pos h
    have hodd : p.odd = true := h.1
    simp only [h, hc0, hl0, hodd, decide_true, and_self, if_true, Bool.not_true]
    rfl
  · rw [if_neg (by simpa using h), advancePosition]
    by_cases hc340 : s.ppu.cycle = 340
    · have hc0 : c = 0 := if_pos (.inr hc340)
      rw [if_pos (show s.ppu.cycle + 1 > 340 by omega)]
      by_cases hl261 : s.ppu.scanline = 261
      · have hl0 : l = 0 := by simp only [l, p, h, hc340, hl261, if_true, if_false]
        rw [if_pos (show s.ppu.scanline + 1 > 261 by omega), if_pos ⟨hl0, hc0⟩, if_pos ⟨hl0, hc0⟩, hc0, hl0]
      · have hl1 : l = s.ppu.scanline + 1 := by simp only [l, p, h, hc340, hl261, if_true, if_false]
        rw [if_neg (show ¬s.ppu.scanline + 1 > 261 by omega), if_neg (by omega), if_neg (by omega), hc0, hl1]
    · have hc1 : c = s.ppu.cycle + 1 := if_neg (by simp [h, p, hc340])
      have hl1 : l = s.ppu.scanline := by simp only [l, p, h, hc340, if_false]
      rw [if_neg (show ¬s.ppu.cycle + 1 > 340 by omega), if_neg (by omega), if_neg (by omega), hc1, hl1]

/-- Settles O31: the tick moves the position and then acts where it lands. -/
theorem tickSchedule : Obligations.TickSchedule := by
  unfold Obligations.TickSchedule
  intro s hc hl p rendering skips c l frame odd there onLine fetching drawing sprites setsFlags clearsFlags
  have hmoved := moved_eq s hc hl
  have hsame : SameSprites (moved s) there := by
    rw [hmoved]
    exact ⟨fun _ => rfl, fun _ => rfl, rfl, rfl⟩
  obtain ⟨hslots, hcount, hoverflow⟩ := hsame.evaluated
  rw [tick_eq, actAtPosition_eq, hslots, hcount, hoverflow, hmoved]
  rfl

end Sys2Proof.Machine
end

section
/-! PROOF. The NMI delay and the vertical blank (spec/61_ppu.md R497, R498, R505), by where a tick lands. -/

namespace Sys2Proof.Machine

/-- The move itself changes the position only, and the NMI countdown the NMI items only. -/
theorem moved_state (s : State) : moved s = { s with
    nmiPending := (moved s).nmiPending
    ppu := { s.ppu with
      cycle := (moved s).ppu.cycle, scanline := (moved s).ppu.scanline, frame := (moved s).ppu.frame
      odd := (moved s).ppu.odd, nmiDelay := s.ppu.nmiDelay - 1 } } := by
  rw [moved]
  split
  · rw [countNmi_eq]; rfl
  · rw [advancePosition_state, countNmi_eq]

/-- Where a tick lands (R486, R487). -/
theorem moved_position (s : State) :
    (moved s).ppu.cycle = (if skipsTick s = true ∨ 340 < s.ppu.cycle + 1 then 0 else s.ppu.cycle + 1) ∧
    (moved s).ppu.scanline = (if skipsTick s = true then 0
      else if 340 < s.ppu.cycle + 1 then (if 261 < s.ppu.scanline + 1 then 0 else s.ppu.scanline + 1)
      else s.ppu.scanline) := by
  rw [moved, countNmi_eq]
  by_cases hskip : skipsTick s = true
  · simp only [hskip, if_true, true_or]
    exact ⟨rfl, rfl⟩
  · simp only [hskip, advancePosition, Bool.false_eq_true, false_or, if_false, gt_iff_lt]
    split_ifs <;> exact ⟨rfl, rfl⟩

theorem cycle_of_skipsTick {s : State} (h : skipsTick s = true) : s.ppu.cycle = 339 := by
  simp only [skipsTick, Bool.and_eq_true, decide_eq_true_eq] at h
  exact h.1.2

/-- A tick lands on cycle 1 of a line only from cycle 0 of that line. -/
theorem moved_at_cycle_one_iff (s : State) (l : Nat) :
    (moved s).ppu.scanline = l ∧ (moved s).ppu.cycle = 1 ↔ s.ppu.scanline = l ∧ s.ppu.cycle = 0 := by
  obtain ⟨hc, hl⟩ := moved_position s
  by_cases hstay : skipsTick s = true ∨ 340 < s.ppu.cycle + 1
  · have hne : s.ppu.cycle ≠ 0 := by
      rcases hstay with h | h
      · rw [cycle_of_skipsTick h]; decide
      · omega
    rw [hc, if_pos hstay]
    omega
  · obtain ⟨hskip, h340⟩ := not_or.mp hstay
    rw [hc, hl, if_neg hstay, if_neg hskip, if_neg h340]
    omega

/-- The tick to (241, 1) publishes the frame. -/
theorem tick_front (s : State) :
    (tick s).ppu.front = if s.ppu.scanline = 241 ∧ s.ppu.cycle = 0 then s.ppu.back else s.ppu.front := by
  rw [tick_eq, actAtPosition_eq]
  simp only [moved_at_cycle_one_iff]
  rw [moved_state]

theorem tick_vblank (s : State) : (tick s).ppu.vblank =
    if s.ppu.scanline = 241 ∧ s.ppu.cycle = 0 then true
    else if s.ppu.scanline = 261 ∧ s.ppu.cycle = 0 then false else s.ppu.vblank := by
  rw [tick_eq, actAtPosition_eq]
  simp only [moved_at_cycle_one_iff]
  rw [moved_state]

theorem tick_nmiPrevious (s : State) : (tick s).ppu.nmiPrevious =
    if s.ppu.scanline = 241 ∧ s.ppu.cycle = 0 then s.ppu.ctrl.getLsbD 7
    else if s.ppu.scanline = 261 ∧ s.ppu.cycle = 0 then false else s.ppu.nmiPrevious := by
  rw [tick_eq, actAtPosition_eq]
  simp only [moved_at_cycle_one_iff]
  rw [moved_state]

theorem tick_nmiDelay (s : State) : (tick s).ppu.nmiDelay =
    if s.ppu.scanline = 241 ∧ s.ppu.cycle = 0 ∧ s.ppu.ctrl.getLsbD 7 = true ∧ s.ppu.nmiPrevious = false
    then s.cfg.nmiDelayTicks else s.ppu.nmiDelay - 1 := by
  rw [tick_eq, actAtPosition_eq]
  simp only [moved_at_cycle_one_iff, and_assoc]
  rw [moved_state]

/-- The flags of the frame are clear after the tick to (261, 1). -/
theorem tick_frameFlags {s : State} (hl : s.ppu.scanline = 261) (hc : s.ppu.cycle = 0) :
    (tick s).ppu.sprite0Hit = false ∧ (tick s).ppu.overflow = false := by
  have h : (moved s).ppu.scanline = 261 ∧ (moved s).ppu.cycle = 1 := (moved_at_cycle_one_iff s 261).mpr ⟨hl, hc⟩
  rw [tick_eq, actAtPosition_eq]
  exact ⟨if_pos h, if_pos h⟩

/-- Nothing is drawn on line 241. -/
theorem tick_back_of_vblank {s : State} (hl : s.ppu.scanline = 241) (hc : s.ppu.cycle = 0) :
    (tick s).ppu.back = s.ppu.back := by
  have h : (moved s).ppu.scanline = 241 ∧ (moved s).ppu.cycle = 1 := (moved_at_cycle_one_iff s 241).mpr ⟨hl, hc⟩
  rw [tick_eq, actAtPosition_eq]
  show (if _ then _ else (moved s).ppu.back) = _
  rw [if_neg (by omega), moved_state]

/-- Settles O33: the request is made by the countdown, and the rising edge of the vertical blank restarts it. -/
theorem nmiDelay : Obligations.NmiDelay := ⟨tick_nmiPending, tick_nmiDelay⟩

/-- Settles O34, by the position the tick starts from. -/
theorem vblankEvents : Obligations.VblankEvents := by
  unfold Obligations.VblankEvents
  refine ⟨fun s hl hc => ?_, fun s hl hc => ?_, fun s hset hclear => ?_⟩
  · exact ⟨by rw [tick_front, if_pos ⟨hl, hc⟩], tick_back_of_vblank hl hc, by rw [tick_vblank, if_pos ⟨hl, hc⟩],
      by rw [tick_nmiPrevious, if_pos ⟨hl, hc⟩]⟩
  · have hset : ¬(s.ppu.scanline = 241 ∧ s.ppu.cycle = 0) := by omega
    obtain ⟨hhit, hoverflow⟩ := tick_frameFlags hl hc
    exact ⟨by rw [tick_vblank, if_neg hset, if_pos ⟨hl, hc⟩], hhit, hoverflow,
      by rw [tick_nmiPrevious, if_neg hset, if_pos ⟨hl, hc⟩], by rw [tick_front, if_neg hset]⟩
  · exact ⟨by rw [tick_vblank, if_neg hset, if_neg hclear], by rw [tick_front, if_neg hset]⟩

end Sys2Proof.Machine
end

section
/-! PROOF. The length of a frame (spec/61_ppu.md R489): the position counted in dots from (0, 0), one dot a tick. -/

namespace Sys2Proof.Machine

/-- The frame being drawn is an odd one whose last dot is skipped (R487). -/
def skipsFrame (s : State) : Bool := s.ppu.odd && (rendering s || !s.cfg.oddSkipNeedsRendering)

/-- The dot from which a tick returns to (0, 0): the last of the frame, or the one before it. -/
def lastDot (s : State) : Nat := if skipsFrame s then 89340 else 89341

theorem lastDot_le (s : State) : lastDot s ≤ 89341 := by
  unfold lastDot
  split <;> decide

/-- `t` is at dot `n` of the frame of `s`, drawn under the same conditions. -/
structure AtDot (n : Nat) (s t : State) : Prop where
  cycle : t.ppu.cycle = n % 341
  scanline : t.ppu.scanline = n / 341
  frame : t.ppu.frame = s.ppu.frame
  odd : t.ppu.odd = s.ppu.odd
  mask : t.ppu.mask = s.ppu.mask
  cfg : t.cfg = s.cfg

/-- `t` is at (0, 0) of the frame after that of `s`. -/
structure AtNextFrame (s t : State) : Prop where
  cycle : t.ppu.cycle = 0
  scanline : t.ppu.scanline = 0
  frame : t.ppu.frame = s.ppu.frame + 1
  odd : t.ppu.odd = !s.ppu.odd

theorem skipsTick_iff (s : State) :
    skipsTick s = true ↔ skipsFrame s = true ∧ s.ppu.scanline = 261 ∧ s.ppu.cycle = 339 := by
  simp only [skipsTick, skipsFrame, Bool.and_eq_true, decide_eq_true_eq]
  tauto

/-- The frame ends with the skip, or from the last dot of the last line. -/
theorem moved_frame (s : State) :
    let ends := skipsTick s = true ∨ 340 < s.ppu.cycle + 1 ∧ 261 < s.ppu.scanline + 1
    (moved s).ppu.frame = (if ends then s.ppu.frame + 1 else s.ppu.frame) ∧
    (moved s).ppu.odd = (if ends then !s.ppu.odd else s.ppu.odd) := by
  intro ends
  rw [moved, countNmi_eq]
  by_cases hskip : skipsTick s = true
  · have hodd : s.ppu.odd = true := by
      simp only [skipsTick_iff, skipsFrame, Bool.and_eq_true] at hskip
      exact hskip.1.1
    simp only [ends, hskip, if_true, true_or, hodd]
    exact ⟨rfl, rfl⟩
  · simp only [ends, hskip, advancePosition, Bool.false_eq_true, false_or, if_false, gt_iff_lt, ite_and]
    split_ifs <;> exact ⟨rfl, rfl⟩

/-- A tick writes none of the items that its move does not. -/
theorem tick_regs (s : State) : SameRegs (tick s).ppu (moved s).ppu := by
  rw [tick_eq]
  exact actAtPosition_regs _

theorem tick_mask (s : State) : (tick s).ppu.mask = s.ppu.mask := by
  rw [(tick_regs s).mask, moved_state]

theorem ticks_succ (n : Nat) (s : State) : ticks (n + 1) s = tick (ticks n s) := ticks_add n 1 s

/-! One tick. -/

theorem AtDot.skipsTick_iff {n : Nat} {s t : State} (h : AtDot n s t) :
    skipsTick t = true ↔ skipsFrame s = true ∧ n = 89340 := by
  have hskips : skipsFrame t = skipsFrame s := by
    simp only [skipsFrame, rendering, h.odd, h.mask, h.cfg]
  rw [Machine.skipsTick_iff, hskips, h.scanline, h.cycle]
  exact and_congr_right fun _ => by omega

/-- Before the last dot of the frame a tick moves to the next dot. -/
theorem AtDot.tick {n : Nat} {s t : State} (h : AtDot n s t) (hn : n < lastDot s) : AtDot (n + 1) s (tick t) := by
  have hskip : skipsTick t = false := by
    rw [← Bool.not_eq_true, h.skipsTick_iff]
    rintro ⟨hs, rfl⟩
    simp [lastDot, hs] at hn
  have hn2 : n < 89341 := hn.trans_le (lastDot_le s)
  obtain ⟨hc, hl⟩ := moved_position t
  obtain ⟨hframe, hodd⟩ := moved_frame t
  simp only [hskip, Bool.false_eq_true, false_or, if_false, h.cycle, h.scanline] at hc hl hframe hodd
  have hregs := tick_regs t
  refine ⟨?_, ?_, ?_, ?_, ?_, ?_⟩
  · rw [hregs.cycle, hc]
    split_ifs <;> omega
  · rw [hregs.scanline, hl]
    split_ifs <;> omega
  · rw [hregs.frame, hframe, if_neg (by omega), h.frame]
  · rw [hregs.odd, hodd, if_neg (by omega), h.odd]
  · rw [tick_mask, h.mask]
  · rw [tick_cfg, h.cfg]

/-- From the last dot of the frame a tick returns to (0, 0). -/
theorem AtDot.tick_lastDot {s t : State} (h : AtDot (lastDot s) s t) : AtNextFrame s (Machine.tick t) := by
  have hend : skipsTick t = true ∨ 340 < t.ppu.cycle + 1 ∧ 261 < t.ppu.scanline + 1 := by
    rw [h.skipsTick_iff, h.cycle, h.scanline, lastDot]
    by_cases hs : skipsFrame s = true
    · exact .inl ⟨hs, if_pos hs⟩
    · rw [if_neg hs]
      exact .inr (by decide)
  have hc340 : skipsTick t = true ∨ 340 < t.ppu.cycle + 1 := hend.imp_right And.left
  obtain ⟨hc, hl⟩ := moved_position t
  obtain ⟨hframe, hodd⟩ := moved_frame t
  have hregs := tick_regs t
  refine ⟨?_, ?_, ?_, ?_⟩
  · rw [hregs.cycle, hc, if_pos hc340]
  · rw [hregs.scanline, hl]
    rcases hend with hskip | ⟨hcycle, hline⟩
    · rw [if_pos hskip]
    · rw [if_pos hcycle, if_pos hline, ite_self]
  · rw [hregs.frame, hframe, if_pos hend, h.frame]
  · rw [hregs.odd, hodd, if_pos hend, h.odd]

/-! Many ticks. -/

theorem AtDot.ticks {k n : Nat} {s : State} (h : AtDot k s s) (hn : k + n ≤ lastDot s) :
    AtDot (k + n) s (ticks n s) := by
  induction n with
  | zero => exact h
  | succ n ih =>
    rw [ticks_succ]
    exact (ih (by omega)).tick (by omega)

theorem AtDot.ticks_lastDot {k n : Nat} {s : State} (h : AtDot k s s) (hn : k + n = lastDot s) :
    AtNextFrame s (Machine.ticks (n + 1) s) := by
  have hlast := h.ticks hn.le
  rw [hn] at hlast
  rw [ticks_succ]
  exact hlast.tick_lastDot

/-- From (0, 0) the whole frame passes before (0, 0) comes again. -/
theorem AtDot.frame_passes {s : State} (h : AtDot 0 s s) {n : Nat} (hn : 0 < n) (hlt : n < lastDot s + 1) :
    ¬((Machine.ticks n s).ppu.cycle = 0 ∧ (Machine.ticks n s).ppu.scanline = 0) := by
  have ht := h.ticks (n := n) (by omega)
  rw [ht.cycle, ht.scanline]
  omega

/-- Settles O32: the dots of a frame, one a tick, up to the last or to the one before it. -/
theorem frameLength : Obligations.FrameLength := by
  unfold Obligations.FrameLength
  refine ⟨fun s hc hl => ?_, fun s hs => ?_⟩
  · intro skips atStart
    have hstart : AtDot 0 s s := ⟨hc, hl, rfl, rfl, rfl, rfl⟩
    have hnext := hstart.ticks_lastDot (Nat.zero_add _)
    have hpasses := fun n hn hlt => hstart.frame_passes (n := n) hn hlt
    have hskips : skipsFrame s = true ↔ skips := by
      simp [skipsFrame, rendering, skips, or_assoc]
    refine ⟨fun hno => ?_, fun hyes => ?_⟩
    · have hlast : lastDot s = 89341 := if_neg (mt hskips.mp hno)
      simp only [hlast, Nat.reduceAdd] at hnext hpasses
      exact ⟨⟨hnext.cycle, hnext.scanline⟩, hnext.frame, hnext.odd, hpasses⟩
    · have hlast : lastDot s = 89340 := if_pos (hskips.mpr hyes)
      have hodd : s.ppu.odd = true := hyes.1
      simp only [hlast, Nat.reduceAdd] at hnext hpasses
      exact ⟨⟨hnext.cycle, hnext.scanline⟩, hnext.frame, by rw [hnext.odd, hodd]; rfl, hpasses⟩
  · have hstart : AtDot 82180 s s := by
      refine ⟨?_, ?_, rfl, rfl, rfl, rfl⟩ <;> rw [hs] <;> rfl
    have hlast : lastDot s = 89341 := if_neg (by simp [skipsFrame, hs, Ppu.powerOn])
    have hone := hstart.tick (by rw [hlast]; decide)
    have htwo := hone.tick (by rw [hlast]; decide)
    have htwice : ticks 2 s = tick (tick s) := rfl
    have hnext := hstart.ticks_lastDot (n := 7161) hlast.symm
    simp only [Nat.reduceAdd] at hnext
    have hvblank : (tick s).ppu.vblank = false := by
      rw [tick_vblank, hs]; rfl
    rw [htwice]
    refine ⟨hone.scanline, hone.cycle, hvblank, htwo.scanline, htwo.cycle, ?_, hnext.scanline, hnext.cycle, ?_⟩
    · exact (tick_vblank (tick s)).trans (if_pos ⟨hone.scanline, hone.cycle⟩)
    · rw [hnext.frame, hs]; rfl

end Sys2Proof.Machine
end

section
/-! PROOF. The fetch addresses and the packed pixel rows in arithmetic (spec/61_ppu.md R480 to R483, R492). -/

namespace Sys2Proof.Machine

/-! Packed pixels. -/

theorem appendPixel_last (acc : BitVec 32) (pixel : BitVec 4) : (appendPixel acc pixel).setWidth 4 = pixel := by
  ext i hi
  simp [appendPixel]

theorem appendPixel_earlier (acc : BitVec 32) (pixel : BitVec 4) {k : Nat} (hk : k < 7) :
    (appendPixel acc pixel >>> (4 * (k + 1))).setWidth 4 = (acc >>> (4 * k)).setWidth 4 := by
  apply BitVec.eq_of_getLsbD_eq
  intro i hi
  have hlt : 4 * (k + 1) + i < 32 := by omega
  have hge : ¬4 * (k + 1) + i < 4 := by omega
  have hsub : 4 * (k + 1) + i - 4 = 4 * k + i := by omega
  have hacc : 4 * k + i < 32 := by omega
  have hpixel : pixel.getLsbD (4 * (k + 1) + i) = false := BitVec.getLsbD_of_ge _ _ (by omega)
  simp [appendPixel, hi, hlt, hge, hsub, hpixel, hacc]

/-- Of `n` pixels appended in order, pixel `j` has `n - 1 - j` to its right. -/
theorem appendPixel_foldl (f : Nat → BitVec 4) {n j : Nat} (hn : n ≤ 8) (hj : j < n) :
    (((List.range n).foldl (fun acc i => appendPixel acc (f i)) 0) >>> (4 * (n - 1 - j))).setWidth 4 = f j := by
  induction n with
  | zero => omega
  | succ n ih =>
    rw [List.range_succ, List.foldl_append, List.foldl_cons, List.foldl_nil]
    rcases Nat.lt_succ_iff_lt_or_eq.mp hj with hlt | rfl
    · rw [show n + 1 - 1 - j = n - 1 - j + 1 by omega, appendPixel_earlier _ _ (by omega), ih (by omega) hlt]
    · rw [Nat.add_sub_cancel, Nat.sub_self, Nat.mul_zero, BitVec.ushiftRight_zero, appendPixel_last]

theorem packTile_pixel (at4 : BitVec 4) (lo hi : Byte) {j : Nat} (hj : j < 8) :
    (packTile at4 lo hi >>> (4 * (7 - j))).setWidth 4 =
      at4 ||| BitVec.ofNat 4 (2 * (hi.getLsbD (7 - j)).toNat + (lo.getLsbD (7 - j)).toNat) := by
  rw [packTile, appendPixel_foldl _ (Nat.le_refl 8) hj, BitVec.or_assoc]
  cases hi.getLsbD (7 - j) <;> cases lo.getLsbD (7 - j) <;> rfl

/-- A mask of `k` bits from bit `j` on, in arithmetic. -/
theorem and_mask_eq (n j k : Nat) : n &&& (2 ^ k - 1) * 2 ^ j = 2 ^ j * (n / 2 ^ j % 2 ^ k) := by
  rw [← Nat.shiftLeft_eq, Nat.mul_comm, ← Nat.shiftLeft_eq, ← Nat.and_two_pow_sub_one_eq_mod,
    ← Nat.shiftRight_eq_div_pow]
  apply Nat.eq_of_testBit_eq
  intro i
  by_cases hi : j ≤ i
  · simp [hi, Bool.and_comm]
  · simp [hi]

/-- The two low bits of a byte, moved to bits 3 and 2 of a pixel. -/
theorem paletteBits_eq (attr : Byte) :
    ((attr &&& 0x03#8) <<< 2).setWidth 4 = BitVec.ofNat 4 (4 * (attr.toNat % 4)) := by
  have hmask : attr.toNat &&& 3 = attr.toNat % 4 := Nat.and_two_pow_sub_one_eq_mod attr.toNat 2
  apply BitVec.eq_of_toNat_eq
  simp only [BitVec.toNat_setWidth, BitVec.toNat_shiftLeft, BitVec.toNat_and, BitVec.toNat_ofNat, Nat.reducePow,
    Nat.reduceMod, hmask, Nat.shiftLeft_eq]
  omega

theorem packSprite_pixel (attr lo hi : Byte) {j : Nat} (hj : j < 8) :
    let b := if attr.getLsbD 6 then j else 7 - j
    (packSprite attr lo hi >>> (4 * (7 - j))).setWidth 4 =
      BitVec.ofNat 4 (4 * (attr.toNat % 4) + 2 * (hi.getLsbD b).toNat + (lo.getLsbD b).toNat) := by
  intro b
  rw [packSprite, appendPixel_foldl _ (Nat.le_refl 8) hj, paletteBits_eq]
  have h4 : attr.toNat % 4 < 4 := Nat.mod_lt _ (by decide)
  show _ ||| (BitVec.ofBool (hi.getLsbD b)).setWidth 4 <<< 1 ||| (BitVec.ofBool (lo.getLsbD b)).setWidth 4 = _
  generalize attr.toNat % 4 = palette at h4
  cases hi.getLsbD b <;> cases lo.getLsbD b <;> interval_cases palette <;> rfl

/-! Addresses. -/

theorem nametableAddr_eq (v : BitVec 15) : nametableAddr v = BitVec.ofNat 16 (0x2000 + v.toNat % 0x1000) := by
  have hmask : v.toNat &&& 0xFFF = v.toNat % 0x1000 := Nat.and_two_pow_sub_one_eq_mod v.toNat 12
  have hor : 0x2000 + v.toNat % 0x1000 = 0x2000 ||| v.toNat % 0x1000 :=
    Nat.shiftLeft_add_eq_or_of_lt (i := 13) (by omega) 1
  apply BitVec.eq_of_toNat_eq
  simp only [nametableAddr, BitVec.toNat_or, BitVec.toNat_setWidth, BitVec.toNat_and, BitVec.toNat_ofNat, Nat.reducePow,
    Nat.reduceMod, hmask, hor]
  rw [← hor, Nat.mod_eq_of_lt (a := v.toNat % 0x1000) (by omega), ← hor]
  omega

/-- The fields of the address of R481 do not overlap. -/
theorem attributeFields_or : ∀ nt < 4, ∀ row < 8, ∀ column < 8,
    0x23C0 ||| 0x400 * nt ||| 8 * row ||| column = 0x23C0 + 0x400 * nt + 8 * row + column := by decide

theorem attributeAddr_eq (v : BitVec 15) : attributeAddr v = BitVec.ofNat 16
    (0x23C0 + 0x400 * (v.toNat / 0x400 % 4) + 8 * (v.toNat / 0x80 % 8) + v.toNat / 4 % 8) := by
  have hnt : v.toNat &&& 0xC00 = 0x400 * (v.toNat / 0x400 % 4) := and_mask_eq v.toNat 10 2
  have hrow : v.toNat >>> 4 &&& 0x38 = 8 * (v.toNat / 0x80 % 8) := by
    rw [Nat.shiftRight_eq_div_pow, ← Nat.div_div_eq_div_mul v.toNat 16 8]
    exact and_mask_eq _ 3 3
  have hcolumn : v.toNat >>> 2 &&& 7 = v.toNat / 4 % 8 := by
    rw [Nat.shiftRight_eq_div_pow]
    exact Nat.and_two_pow_sub_one_eq_mod _ 3
  have hor := attributeFields_or _ (Nat.mod_lt (v.toNat / 0x400) (by decide)) _
    (Nat.mod_lt (v.toNat / 0x80) (by decide)) _ (Nat.mod_lt (v.toNat / 4) (by decide))
  apply BitVec.eq_of_toNat_eq
  simp only [attributeAddr, BitVec.toNat_or, BitVec.toNat_setWidth, BitVec.toNat_and, BitVec.toNat_ofNat,
    BitVec.toNat_ushiftRight, Nat.reducePow, Nat.reduceMod, hnt, hrow, hcolumn, hor]

theorem attributeShift_eq (v : BitVec 15) :
    attributeShift v = 4 * (v.toNat / 0x40 % 2) + 2 * (v.toNat / 2 % 2) := by
  have hrow : v.toNat >>> 4 &&& 4 = 4 * (v.toNat / 0x40 % 2) := by
    rw [Nat.shiftRight_eq_div_pow, ← Nat.div_div_eq_div_mul v.toNat 16 4]
    exact and_mask_eq _ 2 1
  have hcolumn : v.toNat &&& 2 = 2 * (v.toNat / 2 % 2) := and_mask_eq v.toNat 1 1
  have hor : ∀ row < 2, ∀ column < 2, 4 * row ||| 2 * column = 4 * row + 2 * column := by decide
  rw [← hor _ (Nat.mod_lt _ (by decide)) _ (Nat.mod_lt _ (by decide)), ← hrow, ← hcolumn]
  rfl

theorem patternAddr_eq (s : State) : patternAddr s = BitVec.ofNat 16
    (0x1000 * (s.ppu.ctrl.getLsbD 4).toNat + 16 * s.ppu.ntByte.toNat + s.ppu.v.toNat / 0x1000) := by
  rw [patternAddr]
  simp only [BitVec.toNat_ushiftRight, Nat.shiftRight_eq_div_pow]
  cases s.ppu.ctrl.getLsbD 4 <;> rfl

/-- The two bits that R481 selects for a quadrant, in bits 3 and 2. -/
theorem attributeBits_eq (b : Byte) (k : Nat) :
    (((b >>> k) &&& 0x03#8) <<< 2).setWidth 4 = BitVec.ofNat 4 (4 * (b.toNat / 2 ^ k % 4)) := by
  rw [paletteBits_eq, BitVec.toNat_ushiftRight, Nat.shiftRight_eq_div_pow]

theorem spriteAddr_of_small {ctrl : Byte} (h : ctrl.getLsbD 5 = false) (tile attr : Byte) (row : Nat) :
    spriteAddr ctrl tile attr row = BitVec.ofNat 16 (0x1000 * (ctrl.getLsbD 3).toNat + 16 * tile.toNat +
      if attr.getLsbD 7 then 7 - row else row) := by
  rw [spriteAddr, h]
  rfl

theorem spriteAddr_of_tall {ctrl : Byte} (h : ctrl.getLsbD 5 = true) (tile attr : Byte) {row : Nat} (hrow : row < 16) :
    let r := if attr.getLsbD 7 then 15 - row else row
    spriteAddr ctrl tile attr row =
      BitVec.ofNat 16 (0x1000 * (tile.toNat % 2) + 16 * (2 * (tile.toNat / 2) + r / 8) + r % 8) := by
  intro r
  have htile : (tile &&& 0xFE#8).toNat = 2 * (tile.toNat / 2) := by
    rw [BitVec.toNat_and, show (0xFE#8).toNat = (2 ^ 7 - 1) * 2 ^ 1 from rfl, and_mask_eq]
    omega
  have htable : (tile &&& 0x01#8).toNat = tile.toNat % 2 := by
    rw [BitVec.toNat_and]
    exact Nat.and_two_pow_sub_one_eq_mod _ 1
  have hr : r < 16 := by
    unfold r
    split <;> omega
  rw [spriteAddr, if_pos h, htile, htable]
  show (if r > 7 then _ else _) = _
  split <;> congr 1 <;> omega

/-- Settles O36, from the packed pixels and the addresses above. -/
theorem patternRows : Obligations.PatternRows := by
  unfold Obligations.PatternRows
  refine ⟨?_, fun at4 lo hi j hj => packTile_pixel at4 lo hi hj, fun _ => rfl,
    fun attr lo hi j hj => packSprite_pixel attr lo hi hj,
    fun ctrl tile attr row h _ => spriteAddr_of_small h tile attr row,
    fun ctrl tile attr row h hrow => spriteAddr_of_tall h tile attr hrow, fun _ _ _ _ => rfl⟩
  intro s n row area quadrant
  refine ⟨?_, ?_, ?_, ?_⟩
  · rw [fetchNametable, nametableAddr_eq]
  · rw [fetchAttribute, attributeBits_eq, attributeAddr_eq, attributeShift_eq]
  · rw [fetchPatternLow, patternAddr_eq]
  · have hnext : BitVec.ofNat 16 (row + 8) = BitVec.ofNat 16 row + 8 := BitVec.ofNat_add row 8
    rw [fetchPatternHigh, patternAddr_eq, hnext]

end Sys2Proof.Machine
end

section
/-! PROOF. The pixels in arithmetic (spec/61_ppu.md R493 to R496). -/

namespace Sys2Proof.Machine

/-- A 4-bit pixel of packed pixels, in arithmetic. -/
theorem pixelAt_eq {w : Nat} (x : BitVec w) (k : Nat) :
    (x >>> (4 * k)).setWidth 4 = BitVec.ofNat 4 (x.toNat / 16 ^ k) := by
  apply BitVec.eq_of_toNat_eq
  rw [BitVec.toNat_setWidth, BitVec.toNat_ushiftRight, BitVec.toNat_ofNat, Nat.shiftRight_eq_div_pow, Nat.pow_mul]

theorem opaquePixel_eq : ∀ p : BitVec 4, opaquePixel p = decide (p.toNat % 4 ≠ 0) := by decide

theorem backgroundPixel_eq (s : State) : backgroundPixel s = if s.ppu.mask.getLsbD 3
    then BitVec.ofNat 4 (s.ppu.tileData.toNat / 2 ^ 32 / 16 ^ (7 - s.ppu.x.toNat)) else 0 := by
  rw [backgroundPixel, pixelAt_eq, BitVec.toNat_ushiftRight, Nat.shiftRight_eq_div_pow]

theorem slotPixel_eq (s : State) (k col : Nat) : slotPixel k col s =
    if (slotAt k s).x.toNat ≤ col ∧ col ≤ (slotAt k s).x.toNat + 7
    then BitVec.ofNat 4 ((slotAt k s).pattern.toNat / 16 ^ (7 - (col - (slotAt k s).x.toNat))) else 0 := by
  rw [slotPixel]
  simp only [pixelAt_eq]
  exact if_congr (by omega) rfl rfl

/-! The sprite pixel. -/

/-- Slot `k` is one of those filled, and its pixel at the column is opaque (R493). -/
def slotOpaque (col : Nat) (s : State) (k : Nat) : Bool :=
  decide (k < s.ppu.spriteCount) && opaquePixel (slotPixel k col s)

theorem slotOpaque_iff (col : Nat) (s : State) (k : Nat) :
    slotOpaque col s k = true ↔ k < s.ppu.spriteCount ∧ (slotPixel k col s).toNat % 4 ≠ 0 := by
  rw [slotOpaque, opaquePixel_eq, Bool.and_eq_true, decide_eq_true_eq, decide_eq_true_eq]

theorem spritePixel_of_off {col : Nat} {s : State} (h : s.ppu.mask.getLsbD 4 = false) : spritePixel col s = (0, 0) := by
  rw [spritePixel, h]
  rfl

theorem spritePixel_of_none {col : Nat} {s : State} (h : s.ppu.mask.getLsbD 4 = true)
    (hnone : ∀ k < 8, slotOpaque col s k = false) : spritePixel col s = (0, 0) := by
  have hfind : (List.range 8).find? (slotOpaque col s) = none := by
    simpa [List.find?_range_eq_none] using hnone
  rw [spritePixel, if_pos h]
  unfold slotOpaque at hfind
  rw [hfind]

theorem spritePixel_of_first {col : Nat} {s : State} {k : Nat} (h : s.ppu.mask.getLsbD 4 = true) (hk : k < 8)
    (hopaque : slotOpaque col s k = true) (hfirst : ∀ j < k, slotOpaque col s j = false) :
    spritePixel col s = (slotPixel k col s, k) := by
  have hfind : (List.range 8).find? (slotOpaque col s) = some k := by
    rw [List.find?_range_eq_some]
    exact ⟨hopaque, List.mem_range.mpr hk, fun j hj => by rw [hfirst j hj]; rfl⟩
  rw [spritePixel, if_pos h]
  unfold slotOpaque at hfind
  rw [hfind]

/-! The pixel drawn. -/

/-- The background pixel after left-column clipping (R496). -/
def shownBackground (s : State) : BitVec 4 :=
  if s.ppu.cycle - 1 < 8 ∧ s.ppu.mask.getLsbD 1 = false then 0 else backgroundPixel s

/-- The sprite pixel after left-column clipping (R496). -/
def shownSprite (s : State) : BitVec 4 :=
  if s.ppu.cycle - 1 < 8 ∧ s.ppu.mask.getLsbD 2 = false then 0 else (spritePixel (s.ppu.cycle - 1) s).1

/-- The slot of the sprite pixel. -/
def shownSlot (s : State) : SpriteSlot := slotAt (spritePixel (s.ppu.cycle - 1) s).2 s

/-- The palette entry of the pixel drawn, by opacity and priority (R496). -/
def shownColour (s : State) : Nat :=
  if opaquePixel (shownSprite s) && (!opaquePixel (shownBackground s) || !(shownSlot s).priority)
  then (shownSprite s).toNat + 16
  else if opaquePixel (shownBackground s) then (shownBackground s).toNat else 0

/-- The four cases of R496. -/
theorem shownColour_eq (s : State) : shownColour s =
    match opaquePixel (shownBackground s), opaquePixel (shownSprite s) with
    | false, false => 0
    | false, true => (shownSprite s).toNat + 0x10
    | true, false => (shownBackground s).toNat
    | true, true => if (shownSlot s).priority then (shownBackground s).toNat else (shownSprite s).toNat + 0x10 := by
  rw [shownColour]
  cases opaquePixel (shownBackground s) <;> cases opaquePixel (shownSprite s) <;>
    cases (shownSlot s).priority <;> rfl

theorem renderPixel_eq (s : State) : renderPixel s = { s with ppu := { s.ppu with
    sprite0Hit := s.ppu.sprite0Hit || (opaquePixel (shownBackground s) && opaquePixel (shownSprite s) &&
      decide ((shownSlot s).index = 0) && decide (s.ppu.cycle - 1 < 255))
    back := Memory.write s.ppu.back (s.ppu.scanline * 256 + (s.ppu.cycle - 1))
      ((Memory.read s.palette (palIndex (0x3F00 + shownColour s))).setWidth 6) } } := by
  rw [shownColour_eq]
  rfl

/-- Settles O37, clause by clause. -/
theorem pixels : Obligations.Pixels := by
  unfold Obligations.Pixels
  refine ⟨backgroundPixel_eq, fun s col => ?_, slotPixel_eq, fun s => ?_⟩
  · intro opaqueAt
    have hopaque : ∀ k < 8, slotOpaque col s k = true ↔ opaqueAt k := fun k hk => by
      rw [slotOpaque_iff]
      exact ⟨fun ⟨hc, hp⟩ => ⟨hc, hk, hp⟩, fun ⟨hc, _, hp⟩ => ⟨hc, hp⟩⟩
    refine ⟨spritePixel_of_off, fun hon hnone => ?_, fun k hon hk hfirst => ?_⟩
    · rw [spritePixel_of_none hon fun k hk => by
        rw [← Bool.not_eq_true, hopaque k hk]; exact hnone k]
    · exact spritePixel_of_first hon hk.2.1 ((hopaque k hk.2.1).mpr hk) fun j hj => by
        rw [← Bool.not_eq_true, hopaque j (hj.trans hk.2.1)]; exact hfirst j hj
  · intro col bg sp slot bgOpaque spOpaque showSprite entry
    have hbg : opaquePixel (shownBackground s) = decide bgOpaque := opaquePixel_eq _
    have hsp : opaquePixel (shownSprite s) = decide spOpaque := opaquePixel_eq _
    have hshow : (opaquePixel (shownSprite s) && (!opaquePixel (shownBackground s) || !(shownSlot s).priority)) = true ↔
        showSprite := by
      rw [hsp, hbg, show (shownSlot s).priority = slot.priority from rfl]
      simp [showSprite]
    rw [renderPixel_eq]
    refine ⟨fun k hk => Memory.read_write_ne _ _ hk, fun h => ?_, fun hno h => ?_, fun hno h => ?_, ?_⟩
    · rw [shownColour, if_pos (hshow.mpr h)]
      exact Memory.read_write_self _ _ _
    · rw [shownColour, if_neg (mt hshow.mp hno), if_pos (by rw [hbg]; exact decide_eq_true h)]
      exact Memory.read_write_self _ _ _
    · rw [shownColour, if_neg (mt hshow.mp fun hs => hno hs.1), if_neg (by rw [hbg, decide_eq_true_eq]; exact h)]
      exact Memory.read_write_self _ _ _
    · simp only [hbg, hsp, Bool.or_eq_true, Bool.and_eq_true, decide_eq_true_eq, and_assoc]
      rfl

end Sys2Proof.Machine
end

section
/-! PROOF. The OAM DMA byte by byte (spec/61_ppu.md R473, R474): what the first `n` copies leave. -/

namespace Sys2Proof.Machine

/-! One byte. -/

/-- The address of a source byte of a page (R473), in arithmetic. -/
theorem dmaSource_eq (page : Byte) {i : Nat} (hi : i < 256) :
    word16 page (BitVec.ofNat 8 i) = BitVec.ofNat 16 (256 * page.toNat + i) := by
  apply BitVec.eq_of_toNat_eq
  have := page.isLt
  rw [dmaSource_toNat page hi, BitVec.toNat_ofNat]
  omega

theorem readEffect_oamAddr (addr : Addr) (s : State) : (readEffect addr s).ppu.oamAddr = s.ppu.oamAddr := by
  have hreg : ∀ r, (ppuRegRead r s).2.ppu.oamAddr = s.ppu.oamAddr := fun r => by
    unfold ppuRegRead
    split
    · rfl
    · rfl
    · simp [readPpuData]
    · rfl
  unfold readEffect
  simp only
  split_ifs
  · exact hreg _
  · rfl
  · rfl
  · rfl

theorem dmaByte_eq (page : Byte) {i : Nat} (hi : i < 256) (s : State) :
    dmaByte page s i =
      let source := BitVec.ofNat 16 (256 * page.toNat + i)
      { readEffect source s with
        oam := Memory.write s.oam s.ppu.oamAddr.toNat (readValue source s)
        ppu := { (readEffect source s).ppu with oamAddr := s.ppu.oamAddr + 1 } } := by
  rw [dmaByte, dmaSource_eq page hi, writeOamData, readEffect_oam, readEffect_oamAddr]

/-- Neither RAM nor the mapper's range depends on OAM or the PPU's items. -/
theorem readValue_of_no_device {addr : Addr} (h : addr.toNat < 0x2000 ∨ 0x6000 ≤ addr.toNat) (s : State) (oam : Mem)
    (ppu : Ppu) : readValue addr { s with oam := oam, ppu := ppu } = readValue addr s := by
  rcases h with hram | hmapper
  · have hle : addr.toNat ≤ 0x1FFF := by omega
    simp only [readValue, if_pos hle]
  · rw [readValue_mapper _ hmapper, readValue_mapper _ hmapper]
    rfl

/-! The first bytes of a page. -/

/-- The state after the first `n` bytes of a page are copied. -/
def dmaCopied (page : Byte) (n : Nat) (s : State) : State := (List.range n).foldl (dmaByte page) s

theorem dmaCopied_succ (page : Byte) (n : Nat) (s : State) :
    dmaCopied page (n + 1) s = dmaByte page (dmaCopied page n s) n := by
  rw [dmaCopied, List.range_succ, List.foldl_append]
  rfl

theorem dmaCopied_oamAddr (page : Byte) (n : Nat) (s : State) :
    (dmaCopied page n s).ppu.oamAddr = s.ppu.oamAddr + BitVec.ofNat 8 n := by
  induction n with
  | zero => exact (BitVec.add_zero _).symm
  | succ n ih =>
    rw [dmaCopied_succ, BitVec.ofNat_add, ← BitVec.add_assoc, ← ih]
    show (readEffect _ _).ppu.oamAddr + 1 = _
    rw [readEffect_oamAddr]
    rfl

/-- After the whole page the OAM address is back where it was. -/
theorem dmaCopied_oamAddr_page (page : Byte) (s : State) : (dmaCopied page 256 s).ppu.oamAddr = s.ppu.oamAddr := by
  rw [dmaCopied_oamAddr]
  exact BitVec.add_zero _

theorem dmaCopied_cfg (page : Byte) (n : Nat) (s : State) : (dmaCopied page n s).cfg = s.cfg := by
  induction n with
  | zero => rfl
  | succ n ih =>
    rw [dmaCopied_succ]
    exact (readEffect_cfg _ _).trans ih

theorem dmaCopied_stall (page : Byte) (n : Nat) (s : State) : (dmaCopied page n s).stall = s.stall :=
  (dmaByte_foldl_cycles_stall page _ s).2

theorem dmaCopied_cycles (page : Byte) (n : Nat) (s : State) : (dmaCopied page n s).cycles = s.cycles :=
  (dmaByte_foldl_cycles_stall page _ s).1

/-- Source byte `i` lands `i` bytes after the OAM address and is not overwritten by the next 255. -/
theorem dmaCopied_read (page : Byte) {i n : Nat} (hi : i < n) (hn : n ≤ 256) (s : State) :
    Memory.read (dmaCopied page n s).oam ((s.ppu.oamAddr.toNat + i) % 256) =
      readValue (BitVec.ofNat 16 (256 * page.toNat + i)) (dmaCopied page i s) := by
  induction n with
  | zero => omega
  | succ n ih =>
    have hdest : (dmaCopied page n s).ppu.oamAddr.toNat = (s.ppu.oamAddr.toNat + n) % 256 := by
      rw [dmaCopied_oamAddr, BitVec.toNat_add, BitVec.toNat_ofNat]
      omega
    rw [dmaCopied_succ, dmaByte_eq page (by omega)]
    show Memory.read (Memory.write (dmaCopied page n s).oam _ _) _ = _
    rw [hdest]
    rcases Nat.lt_succ_iff_lt_or_eq.mp hi with hlt | rfl
    · rw [Memory.read_write_ne _ _ (by omega), ih hlt (by omega)]
    · rw [Memory.read_write_self]

/-- Copying bytes whose reads have no side effect changes OAM and the OAM address only. -/
theorem dmaCopied_state {page : Byte} {n : Nat} (hn : n ≤ 256)
    (h : ∀ i < n, ∀ u, readEffect (BitVec.ofNat 16 (256 * page.toNat + i)) u = u) (s : State) :
    dmaCopied page n s = { s with
      oam := (dmaCopied page n s).oam
      ppu := { s.ppu with oamAddr := (dmaCopied page n s).ppu.oamAddr } } := by
  induction n with
  | zero => rfl
  | succ n ih =>
    rw [dmaCopied_succ, dmaByte_eq page (by omega)]
    simp only [h n (Nat.lt_succ_self n)]
    rw [ih (by omega) fun i hi => h i (Nat.lt_succ_of_lt hi)]

/-! A page of RAM or of the mapper's range, and page 0x40. -/

/-- A page without a device is copied byte for byte, and only OAM changes. -/
theorem dmaCopied_of_no_device {page : Byte} (h : page.toNat < 0x20 ∨ 0x60 ≤ page.toNat) (s : State) :
    dmaCopied page 256 s = { s with oam := (dmaCopied page 256 s).oam } ∧
      ∀ i < 256, Memory.read (dmaCopied page 256 s).oam ((s.ppu.oamAddr.toNat + i) % 256) =
        readValue (BitVec.ofNat 16 (256 * page.toNat + i)) s := by
  have hsource : ∀ i < 256, (BitVec.ofNat 16 (256 * page.toNat + i)).toNat < 0x2000 ∨
      0x6000 ≤ (BitVec.ofNat 16 (256 * page.toNat + i)).toNat := fun i hi => by
    have := page.isLt
    rw [BitVec.toNat_ofNat]
    omega
  have hstate : ∀ n ≤ 256, _ := fun n hn => dmaCopied_state (page := page) hn
    (fun i hi u => readEffect_of_no_device _ u ((hsource i (by omega)).imp_right (by omega))) s
  refine ⟨?_, fun i hi => ?_⟩
  · have h256 := hstate 256 le_rfl
    rw [dmaCopied_oamAddr_page] at h256
    exact h256
  · rw [dmaCopied_read page hi le_rfl, hstate i hi.le, readValue_of_no_device (hsource i hi)]

theorem page40Source_toNat {i : Nat} (hi : i < 256) :
    (BitVec.ofNat 16 (256 * (0x40 : Byte).toNat + i)).toNat = 0x4000 + i := by
  rw [BitVec.toNat_ofNat, show (0x40 : Byte).toNat = 64 from rfl]
  omega

/-- The reads of 0x4000 to 0x4015 have no side effect. -/
theorem readEffect_page40 {i : Nat} (hi : i < 22) (u : State) :
    readEffect (BitVec.ofNat 16 (256 * (0x40 : Byte).toNat + i)) u = u := by
  unfold readEffect
  simp only [inPpuWindow, page40Source_toNat (show i < 256 by omega), Bool.and_eq_true, decide_eq_true_eq]
  rw [if_neg (by omega), if_neg (by omega), if_neg (by omega)]

/-- But for the two controllers, 0x4000 to 0x4020 read as open bus. -/
theorem readValue_page40 {i : Nat} (hi : i < 33) (h22 : i ≠ 22) (h23 : i ≠ 23) (u : State) :
    readValue (BitVec.ofNat 16 (256 * (0x40 : Byte).toNat + i)) u = u.cfg.openBus := by
  unfold readValue
  simp only [inPpuWindow, page40Source_toNat (show i < 256 by omega), Bool.and_eq_true, decide_eq_true_eq]
  rw [if_neg (by omega), if_neg (by omega), if_neg (by omega), if_neg (by omega), if_pos (by omega)]

theorem dmaCopied_page40_pads (s : State) : (dmaCopied 0x40 22 s).pads = s.pads := by
  rw [dmaCopied_state (by decide) fun i hi u => readEffect_page40 hi u]

theorem readValue_pad1 (u : State) : readValue 0x4016 u = padBit u.pads.buttons1 u.pads.index1 := rfl

theorem readValue_pad2 (u : State) : readValue 0x4017 u = padBit u.pads.buttons2 u.pads.index2 := rfl

/-- From 0x4016 comes controller 1 as it was before the DMA. -/
theorem readValue_page40_pad1 (s : State) : readValue 0x4016 (dmaCopied 0x40 22 s) = (readPad1 s).1 := by
  rw [readValue_pad1, dmaCopied_page40_pads, readPad1]

/-- From 0x4017 comes controller 2 as it was before the DMA: the read of controller 1 does not shift it. -/
theorem readValue_page40_pad2 (s : State) : readValue 0x4017 (dmaCopied 0x40 23 s) = (readPad2 s).1 := by
  have hpads : (dmaCopied 0x40 23 s).pads = (readPad1 (dmaCopied 0x40 22 s)).2.pads := by
    rw [dmaCopied_succ]
    rfl
  simp only [readValue_pad2, hpads, readPad1, readPad2, dmaCopied_page40_pads]

/-! The write of 0x4014. -/

theorem with_stall_self {s : State} {n : Nat} (h : s.stall = n) : { s with stall := n } = s := by
  rw [← h]

/-- A DMA that completes adds its stall (R473). -/
theorem busWrite_dma_ok {page : Byte} (h : dmaFaults page = false) (s : State) :
    busWrite 0x4014 page s = .ok () { dmaCopied page 256 s with
      stall := s.stall + (if s.cycles.toNat % 2 = 0 then 513 else 514) } := by
  have hstall : (dmaCopied page 256 s).stall + 513 + (dmaCopied page 256 s).cycles.toNat % 2 =
      s.stall + (if s.cycles.toNat % 2 = 0 then 513 else 514) := by
    rw [dmaCopied_stall, dmaCopied_cycles]
    split <;> omega
  rw [busWrite_oamDma _ _ _ rfl, oamDma, oamCopy_ok page h 256 0 s le_rfl, ← List.range_eq_range', ← hstall]
  rfl

end Sys2Proof.Machine

namespace Sys2Proof

open Machine

/-- Settles O38, from the copies of the first 256, 33 or no bytes. -/
theorem oamDma : Obligations.OamDma := by
  unfold Obligations.OamDma
  intro copied
  have hcopied : ∀ d n s, n ≤ 256 → copied d n s = dmaCopied d n s := fun d n s hn =>
    List.foldl_ext _ _ _ fun u i hi => (dmaByte_eq d (by have := List.mem_range.mp hi; omega) u).symm
  have hfaults : ∀ d : Byte, dmaFaults d = false ↔ d.toNat < 0x40 ∨ 0x60 ≤ d.toNat := fun d => by
    simp only [dmaFaults, Bool.and_eq_false_iff, decide_eq_false_iff_not]
    omega
  refine ⟨fun d s hd => ?_, fun d s hd => ?_, fun s => ?_, fun d s hlow hhigh => ?_, fun s => ?_⟩
  · have hwrite := busWrite_dma_ok ((hfaults d).mpr hd) s
    have hstall := dmaCopied_stall d 256 s
    have haddr := dmaCopied_oamAddr_page d s
    rw [hcopied d 256 s le_rfl]
    generalize dmaCopied d 256 s = t at hwrite hstall haddr ⊢
    exact ⟨_, hwrite, rfl, haddr, with_stall_self hstall⟩
  · obtain ⟨hstate, hread⟩ := dmaCopied_of_no_device hd s
    refine ⟨_, ?_, hread⟩
    rw [busWrite_dma_ok ((hfaults d).mpr (by omega)), hstate]
  · rw [busWrite_oamDma _ _ _ rfl, oamDma_stop s rfl, dmaStop_eq, show dmaStopIndex 0x40 = 33 from rfl,
      hcopied _ _ _ (by decide), show word16 0x40 (BitVec.ofNat 8 33) = 0x4021 from rfl]
    rfl
  · have hindex : dmaStopIndex d = 0 := if_neg (by omega)
    have hstop : dmaFaults d = true := by
      rw [← Bool.not_eq_false, hfaults]
      omega
    rw [busWrite_oamDma _ _ _ rfl, oamDma_stop s hstop, dmaStop_eq, hindex, dmaSource_eq d (by decide)]
    rfl
  · rw [hcopied _ _ _ (by decide)]
    refine ⟨dmaCopied_oamAddr _ _ _, dmaCopied_stall _ _ _, fun i hi => ?_⟩
    rw [dmaCopied_read _ hi (by decide)]
    rcases eq_or_ne i 22 with rfl | h22
    · exact readValue_page40_pad1 s
    rcases eq_or_ne i 23 with rfl | h23
    · exact readValue_page40_pad2 s
    · rw [readValue_page40 hi h22 h23, dmaCopied_cfg, if_pos (by omega)]

end Sys2Proof
end
